-- ==== Sys2Proof/Word.lean ====
section
/-! DEFINITION. The two word types of the CPU (00_scope.md R11): every register and memory cell is a
byte, every effective address and the program counter a 16-bit word. -/

namespace Sys2Proof

/-- An 8-bit value (R11). -/
abbrev Byte := BitVec 8

/-- A 16-bit value: PC, effective addresses, pointers and vectors (R11). -/
abbrev Word := BitVec 16

end Sys2Proof
end

