-- ==== Sys2Proof/Config.lean ====
section
/-! DEFINITION. What an implementation fixes: the open parameters of 00_scope.md R9, and the free values
the spec leaves open, which are constants without a body. -/

namespace Sys2Proof

/-- DECIMAL_MODE (41_arith_logic.md R181). -/
inductive DecimalMode where
  | nmosBcd
  | binaryOnly
  deriving DecidableEq, Repr, Inhabited

/-- RSYNC_EFFECT (60_exceptions.md R384). -/
inductive RsyncEffect where
  | ignore
  | resetHcount
  deriving DecidableEq, Repr

/-- PM_PRIORITY (60_exceptions.md R394). -/
inductive PmPriority where
  | pair
  | playersFirst
  deriving DecidableEq, Repr

/-- VDEL_RULE (60_exceptions.md R368). -/
inductive VdelRule where
  | cross
  | self
  deriving DecidableEq, Repr

/-- The open parameters of R9 that a model takes as arguments, less CART_MAPPER, which comes with the
cartridge, and the draws and host inputs, which are state.
They are fixed for a machine: State carries them because `step` has no other argument, and no step changes them (log 1). -/
structure Params where
  /-- DECIMAL_MODE (R181). -/
  decimalMode : DecimalMode
  /-- RSYNC_EFFECT (R384). -/
  rsyncEffect : RsyncEffect
  /-- VISIBLE_FIRST_LINE, 0 to 70 (R353). -/
  visibleFirstLine : Fin 71
  /-- VSYNC_RESETS_LINE (R354). -/
  vsyncResetsLine : Bool
  /-- VBLANK_GATES_COLLISIONS (R392). -/
  vblankGatesCollisions : Bool
  /-- PM_PRIORITY (R394). -/
  pmPriority : PmPriority
  /-- VDEL_RULE (R368). -/
  vdelRule : VdelRule
  /-- RESP_DELAY_P, 0 to 15 (R371). -/
  respDelayP : Fin 16
  /-- RESP_DELAY_MB, 0 to 15 (R371). -/
  respDelayMB : Fin 16
  /-- RESP_HBLANK_POS_P, 0 to 15 (R371). -/
  respHblankPosP : Fin 16
  /-- RESP_HBLANK_POS_MB, 0 to 15 (R371). -/
  respHblankPosMB : Fin 16
  /-- HMOVE_PULSE_START, 0 to 15 colour clocks (R374). -/
  hmovePulseStart : Fin 16
  /-- RESMP_OFFSET for player scale 1 (R377). -/
  resmpOffsetSingle : Nat
  /-- RESMP_OFFSET for player scale 2 (R377). -/
  resmpOffsetDouble : Nat
  /-- RESMP_OFFSET for player scale 4 (R377). -/
  resmpOffsetQuad : Nat
  /-- WIDE_PLAYER_DELAY, 0 (false) or 1 (true) (R362). -/
  widePlayerDelay : Bool
  /-- TIMER_READ_RESTORES_DIVISOR (R324). -/
  timerReadRestoresDivisor : Bool
  deriving DecidableEq, Repr

/-- The host's cartridge image (20_memory.md R70): its length and its bytes, as cells in rising order
of offset; an offset that no cell lists holds 0. -/
structure Rom where
  size : Nat
  bytes : List Host.Cell
  deriving DecidableEq, Repr

/-- The mapper record of 20_memory.md R71. The byte that `onAccess` is given is the byte written, and on a
read the byte read (DESIGN CHOICE, log 11). -/
structure Mapper where
  /-- The image-size test. -/
  accepts : Nat → Bool
  /-- How many banks the draw of a reset bank chooses from. -/
  banks : Nat
  /-- The reset bank, `none` where it is a draw. -/
  resetBank : Option Nat
  /-- The byte of a cartridge read, from the image, the bank and the offset. -/
  mapRead : Rom → Nat → BitVec 12 → Byte
  /-- The bank after a cartridge cycle: bank, offset, whether it writes, and the byte. -/
  onAccess : Nat → BitVec 12 → Bool → Byte → Nat
  deriving Inhabited

/-- DECIMAL_MODE has no default (R9, R181): the parameter of the machine that State.reset describes is
uninterpreted (log 2). -/
opaque Config.decimalMode : DecimalMode

/-- The undriven bits of the n-th TIA read (60_exceptions.md R342): a free value, fresh at every read (log 3). -/
opaque Config.undriven : Nat → Byte

/-- CART_MAPPER beyond the schemes R71 describes: what an identifier names, if anything (log 11). -/
opaque Config.mapper : Nat → Option Mapper

/-- The n-th draw of a reset bank (20_memory.md R71), a free value (log 11). -/
opaque Config.resetBank : Nat → Nat

end Sys2Proof
end

