-- ==== Sys2Proof/Machine/State.lean ====
section
/-! DEFINITION. The state of the machine (10_state.md, 20_memory.md R64 and R70, 60_exceptions.md R322, R328,
R330, R340), its reasons to stop, and its state after reset (10_state.md R45, 70_reset_and_hazards.md R430). -/

namespace Sys2Proof.Machine

/-- A memory of bytes: cells in strictly rising order of offset, none holding 0, which is what an unlisted
offset reads as (log 5, log 31). -/
abbrev Memory := List Host.Cell

/-- The canonical form of a list of cells whose unlisted keys read `d`. -/
def cellsWf {α : Type} [DecidableEq α] (d : α) : List (Nat × α) → Bool
  | [] => true
  | [c] => c.2 != d
  | c :: c' :: m => c.2 != d && decide (c.1 < c'.1) && cellsWf d (c' :: m)

/-- The canonical form of a memory. -/
def Memory.wf (m : Memory) : Bool := cellsWf 0 m

/-- The raster (60_exceptions.md R395): the rows that hold a byte other than 0, by row number. -/
abbrev Raster := List (Nat × Memory)

/-- P, the six stored flags (10_state.md R33). -/
structure Flags where
  n : Bool
  v : Bool
  d : Bool
  i : Bool
  z : Bool
  c : Bool
  deriving DecidableEq, Repr

/-- The CPU's register file (10_state.md R30). -/
structure Cpu where
  a : Byte
  x : Byte
  y : Byte
  s : Byte
  pc : Word
  p : Flags
  deriving DecidableEq, Repr

/-- T.div (60_exceptions.md R322): the divisor of the last timer write. -/
inductive Divisor where
  | by1
  | by8
  | by64
  | by1024
  deriving DecidableEq, Repr

/-- The RIOT: its timer (60_exceptions.md R322) and its two ports (R328). -/
structure Riot where
  /-- T.count. -/
  count : Byte
  /-- T.div. -/
  div : Divisor
  /-- T.pre: RIOT ticks until the next decrement of the count. -/
  pre : Nat
  /-- T.flag. -/
  flag : Bool
  /-- T.fast. -/
  fast : Bool
  /-- OR_A. -/
  orA : Byte
  /-- DDR_A. -/
  ddrA : Byte
  /-- OR_B. -/
  orB : Byte
  /-- DDR_B. -/
  ddrB : Byte
  deriving DecidableEq, Repr

/-- The host input vector (60_exceptions.md R330); a FIRE bit is true when the button is not pressed. -/
structure Inputs where
  inA : Byte
  inB : Byte
  fire0 : Bool
  fire1 : Bool
  pad0 : Bool
  pad1 : Bool
  pad2 : Bool
  pad3 : Bool
  deriving DecidableEq, Repr

/-- The five object position counters pos[o] (60_exceptions.md R370). -/
structure Positions where
  p0 : Nat
  p1 : Nat
  m0 : Nat
  m1 : Nat
  bl : Nat
  deriving DecidableEq, Repr

/-- The HMOVE window: hm.active, hm.t, hm.ext (60_exceptions.md R374, R375). -/
structure Motion where
  active : Bool
  t : Nat
  ext : Bool
  deriving DecidableEq, Repr

/-- The fifteen collision latches (60_exceptions.md R389), named by their pair. -/
structure Collisions where
  m0p1 : Bool
  m0p0 : Bool
  m1p0 : Bool
  m1p1 : Bool
  p0pf : Bool
  p0bl : Bool
  p1pf : Bool
  p1bl : Bool
  m0pf : Bool
  m0bl : Bool
  m1pf : Bool
  m1bl : Bool
  blpf : Bool
  p0p1 : Bool
  m0m1 : Bool
  deriving DecidableEq, Repr

/-- The TIA's stored write registers (60_exceptions.md R341), masked as R341 says, with the old slots of R368. -/
structure TiaRegs where
  vsync : Byte
  vblank : Byte
  nusiz0 : Byte
  nusiz1 : Byte
  colup0 : Byte
  colup1 : Byte
  colupf : Byte
  colubk : Byte
  ctrlpf : Byte
  refp0 : Byte
  refp1 : Byte
  pf0 : Byte
  pf1 : Byte
  pf2 : Byte
  audc0 : Byte
  audc1 : Byte
  audf0 : Byte
  audf1 : Byte
  audv0 : Byte
  audv1 : Byte
  grp0New : Byte
  grp0Old : Byte
  grp1New : Byte
  grp1Old : Byte
  enam0 : Byte
  enam1 : Byte
  enablNew : Byte
  enablOld : Byte
  hmp0 : Byte
  hmp1 : Byte
  hmm0 : Byte
  hmm1 : Byte
  hmbl : Byte
  vdelp0 : Byte
  vdelp1 : Byte
  vdelbl : Byte
  resmp0 : Byte
  resmp1 : Byte
  /-- COLUP0.old, used under VDEL_RULE self only (R367). -/
  colup0Old : Byte
  /-- COLUP1.old. -/
  colup1Old : Byte
  /-- COLUPF.old. -/
  colupfOld : Byte
  deriving DecidableEq, Repr

/-- The TIA (60_exceptions.md R340). -/
structure Tia where
  hcount : Nat
  vcount : Nat
  /-- W, the wait latch (R346). -/
  waiting : Bool
  pos : Positions
  motion : Motion
  regs : TiaRegs
  /-- The playfield bit of the current 4-clock group (R361). -/
  pfbit : Bool
  cx : Collisions
  /-- L4, the latch of FIRE0 (R387). -/
  latch4 : Bool
  /-- L5, the latch of FIRE1 (R387). -/
  latch5 : Bool
  /-- The row being written, by column (R395). -/
  line : Memory
  /-- The raster of the frame in progress (R395). -/
  raster : Raster
  /-- The completed rasters handed to the host, newest first (R396; log 26). -/
  frames : List Raster
  deriving DecidableEq, Repr

/-- The mapper identifier the host supplies with an image (20_memory.md R71, 60_exceptions.md R304). -/
inductive MapperId where
  | none
  | f8
  | f6
  | f4
  /-- An identifier that Config.mapper interprets. -/
  | other (id : Nat)
  deriving DecidableEq, Repr

/-- The cartridge: the image, its mapper and the bank state (20_memory.md R70, R71). -/
structure Cart where
  rom : Rom
  mapper : MapperId
  bank : Nat
  deriving DecidableEq, Repr

/-- What the host can do between two CPU steps (60_exceptions.md R303, R304, R330; 70_reset_and_hazards.md R430). -/
inductive HostEvent where
  /-- Sample an input vector, then let the CPU step run. -/
  | sample (inputs : Inputs)
  /-- The explicit reset request. -/
  | reset
  /-- Supply a cartridge image and a mapper identifier, and power up. -/
  | load (rom : Rom) (mapper : MapperId)
  deriving DecidableEq, Repr

/-- The record of UnimplementedOpcode (60_exceptions.md R300). -/
structure FaultInfo where
  opcode : Byte
  pc : Word
  cycle : Nat
  deriving DecidableEq, Repr

/-- The whole machine. -/
structure State where
  cpu : Cpu
  /-- The 128 bytes of RAM, by offset (20_memory.md R64). -/
  ram : Memory
  cart : Cart
  tia : Tia
  riot : Riot
  /-- The input vector last sampled (60_exceptions.md R330). -/
  inputs : Inputs
  /-- The fault state of 60_exceptions.md R300. -/
  fault : Option FaultInfo
  /-- CPU cycles since reset, wait cycles included (60_exceptions.md R300, R411). -/
  cycles : Nat
  /-- The model's own: the host's actions to come, the next one first (log 18). -/
  host : List HostEvent
  /-- The model's own: how many free values have been drawn (log 3). -/
  draws : Nat
  /-- The open parameters of 00_scope.md R9 (log 1). -/
  params : Params
  deriving DecidableEq, Repr

/-- Why the machine stops. -/
inductive Fault where
  /-- 60_exceptions.md R300: raised by the step that fetches an undocumented opcode byte, and again by every later
  step until a reset, because the fault state is final.
  Safe: the real chip runs an undocumented operation there (30_encoding.md R110).
  It carries the record and the state the machine stops in. -/
  | unimplementedOpcode (info : FaultInfo) (final : State)
  /-- 60_exceptions.md R304: raised by a load of an image the mapper does not accept or of an unknown mapper
  identifier, and by every step with such a cartridge.
  Safe: the machine never starts.
  It carries the record and the state the machine stops in. -/
  | invalidCartridge (length : Nat) (mapper : MapperId) (final : State)
  deriving DecidableEq, Repr

/-- Why the model gives an instruction no meaning. -/
inductive Refusal where
  /-- An instruction without a meaning yet, raised by its arm of `exec`; safe.
  No arm raises it now. -/
  | notModelled (mnemonic : String)
  deriving DecidableEq, Repr

/-- What a step and a meaning answer. -/
abbrev Result := Host.Outcome State Fault Refusal

/-- The R9 defaults; DECIMAL_MODE has none and stays uninterpreted (log 1, log 2). -/
def defaultParams : Params where
  decimalMode := Config.decimalMode
  rsyncEffect := .ignore
  visibleFirstLine := 40
  vsyncResetsLine := false
  vblankGatesCollisions := false
  pmPriority := .pair
  vdelRule := .cross
  respDelayP := 5
  respDelayMB := 4
  respHblankPosP := 3
  respHblankPosMB := 2
  hmovePulseStart := 6
  resmpOffsetSingle := 3
  resmpOffsetDouble := 6
  resmpOffsetQuad := 10
  widePlayerDelay := true
  timerReadRestoresDivisor := false

/-- The CPU after reset: PC from the reset vector of the blank image, P.I = 1 (10_state.md R45); the draws are 0 (log 4). -/
def resetCpu : Cpu where
  a := 0
  x := 0
  y := 0
  s := 0
  pc := 0
  p := { n := false, v := false, d := false, i := true, z := false, c := false }

/-- Every TIA write register 0 (log 6). -/
def resetTiaRegs : TiaRegs where
  vsync := 0
  vblank := 0
  nusiz0 := 0
  nusiz1 := 0
  colup0 := 0
  colup1 := 0
  colupf := 0
  colubk := 0
  ctrlpf := 0
  refp0 := 0
  refp1 := 0
  pf0 := 0
  pf1 := 0
  pf2 := 0
  audc0 := 0
  audc1 := 0
  audf0 := 0
  audf1 := 0
  audv0 := 0
  audv1 := 0
  grp0New := 0
  grp0Old := 0
  grp1New := 0
  grp1Old := 0
  enam0 := 0
  enam1 := 0
  enablNew := 0
  enablOld := 0
  hmp0 := 0
  hmp1 := 0
  hmm0 := 0
  hmm1 := 0
  hmbl := 0
  vdelp0 := 0
  vdelp1 := 0
  vdelbl := 0
  resmp0 := 0
  resmp1 := 0
  colup0Old := 0
  colup1Old := 0
  colupfOld := 0

/-- Every collision latch 0: at reset a named value (log 6), and what CXCLR leaves (60_exceptions.md R391). -/
def noCollisions : Collisions where
  m0p1 := false
  m0p0 := false
  m1p0 := false
  m1p1 := false
  p0pf := false
  p0bl := false
  p1pf := false
  p1bl := false
  m0pf := false
  m0bl := false
  m1pf := false
  m1bl := false
  blpf := false
  p0p1 := false
  m0m1 := false

/-- The TIA after reset (10_state.md R45, 70_reset_and_hazards.md R430 step 4; log 6, log 8). -/
def resetTia : Tia where
  hcount := 0
  vcount := 0
  waiting := false
  pos := { p0 := 0, p1 := 0, m0 := 0, m1 := 0, bl := 0 }
  motion := { active := false, t := 0, ext := false }
  regs := resetTiaRegs
  pfbit := false
  cx := noCollisions
  latch4 := true
  latch5 := true
  line := []
  raster := []
  frames := []

/-- The RIOT after reset (10_state.md R45; log 7). -/
def resetRiot : Riot where
  count := 0
  div := .by1
  pre := 1
  flag := false
  fast := false
  orA := 0
  ddrA := 0
  orB := 0
  ddrB := 0

/-- No joystick moved, no switch or button pressed, colour, difficulties B, paddle bits 0 (log 9). -/
def resetInputs : Inputs where
  inA := 0xFF
  inB := 0x0B
  fire0 := true
  fire1 := true
  pad0 := false
  pad1 := false
  pad2 := false
  pad3 := false

/-- The machine right after reset with a blank 4096-byte image under mapper `none`, before the host has loaded a program (log 10). -/
def State.reset : State where
  cpu := resetCpu
  ram := []
  cart := { rom := { size := 4096, bytes := [] }, mapper := .none, bank := 0 }
  tia := resetTia
  riot := resetRiot
  inputs := resetInputs
  fault := none
  cycles := 0
  host := []
  draws := 0
  params := defaultParams

end Sys2Proof.Machine
end

