-- ==== Sys2Proof/Machine/Cells.lean ====
section
/-! DEFINITION. Reading and writing lists of cells in canonical form: the RAM and the cartridge image by
offset, the row being written by column, the raster by row. -/

namespace Sys2Proof.Machine

/-- What key `k` holds, `d` where no cell lists it. -/
def cellsRead {α : Type} (d : α) : List (Nat × α) → Nat → α
  | [], _ => d
  | c :: m, k => if c.1 = k then c.2 else cellsRead d m k

/-- Write `v` at key `k`: the cells stay in rising order, and writing `d` removes the cell. -/
def cellsWrite {α : Type} [DecidableEq α] (d : α) : List (Nat × α) → Nat → α → List (Nat × α)
  | [], k, v => if v = d then [] else [(k, v)]
  | c :: m, k, v =>
    if k < c.1 then (if v = d then c :: m else (k, v) :: c :: m)
    else if k = c.1 then (if v = d then m else (k, v) :: m)
    else c :: cellsWrite d m k v

/-- The byte at an offset. -/
def Memory.read (m : Memory) (k : Nat) : Byte := cellsRead 0 m k

/-- Write the byte at an offset. -/
def Memory.write (m : Memory) (k : Nat) (v : Byte) : Memory := cellsWrite 0 m k v

/-- Row `r` of a raster (60_exceptions.md R395); a row never written is all 0 (R396). -/
def Raster.row (m : Raster) (r : Nat) : Memory := cellsRead [] m r

/-- Commit a row to a raster. -/
def Raster.commit (m : Raster) (r : Nat) (line : Memory) : Raster := cellsWrite [] m r line

/-- The byte of a raster at a row and a column. -/
def Raster.pixel (m : Raster) (r x : Nat) : Byte := (m.row r).read x

/-- The byte of an image at an offset (20_memory.md R70). -/
def Rom.read (rom : Rom) (o : Nat) : Byte := cellsRead 0 rom.bytes o

end Sys2Proof.Machine
end

