-- ==== Sys2Proof/Machine/Cart.lean ====
section
/-! DEFINITION. The cartridge window: the mappers `none`, F8, F6 and F4 and the bank they select
(20_memory.md R70 to R72, 60_exceptions.md R304). -/

namespace Sys2Proof.Machine

/-- Mapper `none` (R71): 2048 or 4096 bytes, `image[o mod len]`, no switching. -/
def plainMapper : Mapper where
  accepts n := n == 2048 || n == 4096
  banks := 1
  resetBank := some 0
  mapRead rom _ o := Rom.read rom (o.toNat % rom.size)
  onAccess bank _ _ _ := bank

/-- The scheme F8, F6 and F4 share (R71): `n` banks of 4 KiB; any access at offset `first + k` selects bank
`k`, after the access; the reset bank is a draw. -/
def hotspotMapper (n first : Nat) : Mapper where
  accepts size := size == n * 4096
  banks := n
  resetBank := none
  mapRead rom bank o := Rom.read rom (bank * 4096 + o.toNat)
  onAccess bank o _ _ := if first ≤ o.toNat ∧ o.toNat < first + n then o.toNat - first else bank

/-- The mapper record an identifier names; F8, F6 and F4 have their hotspots at $FF8, $FF6 and $FF4 (R71). -/
def mapperOf : MapperId → Option Mapper
  | .none => some plainMapper
  | .f8 => some (hotspotMapper 2 0xFF8)
  | .f6 => some (hotspotMapper 4 0xFF6)
  | .f4 => some (hotspotMapper 8 0xFF4)
  | .other id => Config.mapper id

/-- The check of R304: the identifier names a mapper and the mapper accepts the image's length. -/
def Cart.valid (c : Cart) : Bool :=
  match mapperOf c.mapper with
  | some m => m.accepts c.rom.size
  | none => false

/-- The mapper in use; a cartridge that names none never starts, and is read as under mapper `none` (log 12). -/
def Cart.record (c : Cart) : Mapper := (mapperOf c.mapper).getD plainMapper

/-- What a read of the cartridge at an offset returns, with no effect (R71). -/
def Cart.peek (c : Cart) (o : BitVec 12) : Byte := c.record.mapRead c.rom c.bank o

/-- The cartridge after a bus cycle at an offset: only the bank can change (R71, R72). -/
def Cart.access (c : Cart) (o : BitVec 12) (isWrite : Bool) (v : Byte) : Cart :=
  { c with bank := c.record.onAccess c.bank o isWrite v }

/-- The cartridge at its reset bank; `draw` is the free value a bank is drawn from where the mapper fixes none (R71). -/
def Cart.atResetBank (c : Cart) (draw : Nat) : Cart :=
  { c with bank := c.record.resetBank.getD (draw % c.record.banks) }

end Sys2Proof.Machine
end

