-- ==== Sys2Proof/Machine/Bits.lean ====
section
/-! DEFINITION. Bit-field, byte-order and sign-extension helpers of 00_scope.md R11 and 20_memory.md R67. -/

namespace Sys2Proof.Machine

/-- `lo(w)` of R11. -/
def loByte (w : Word) : Byte := w.setWidth 8

/-- `hi(w)` of R11. -/
def hiByte (w : Word) : Byte := (w >>> 8).setWidth 8

/-- The concatenation of a high and a low byte of R11. -/
def mkWord (high low : Byte) : Word := high ++ low

/-- `sext_16` of R11. -/
def signExtendByte (b : Byte) : Word := b.signExtend 16

/-- `zext_16` of R11. -/
def zeroExtendByte (b : Byte) : Word := b.setWidth 16

/-- `s8` of R11: the two's-complement reading of a byte. -/
def signedByte (b : Byte) : Int := b.toInt

/-- Bit `i` of a byte (R10). -/
def bitAt (b : Byte) (i : Nat) : Bool := b.getLsbD i

/-- A 16-bit address in page 0 (40_load_store.md R136). -/
def pageZero (b : Byte) : Word := mkWord 0 b

/-- The stack address of an 8-bit stack pointer, in page 1 (10_state.md R37). -/
def stackAddr (s : Byte) : Word := mkWord 1 s

end Sys2Proof.Machine
end

