-- ==== Sys2Proof/Machine/Riot.lean ====
section
/-! DEFINITION. The RIOT: register decode, timer and ports (60_exceptions.md R320 to R331). -/

namespace Sys2Proof.Machine

/-- The divisor's value (R322). -/
def Divisor.toNat : Divisor → Nat
  | .by1 => 1
  | .by8 => 8
  | .by64 => 64
  | .by1024 => 1024

/-- The divisor the lines A1 and A0 select (R320, R324). -/
def divisorOf (a10 : BitVec 2) : Divisor :=
  match a10.toNat with
  | 0 => .by1
  | 1 => .by8
  | 2 => .by64
  | _ => .by1024

/-- The read registers of R320. -/
inductive RiotReadReg where
  | swcha
  | swacnt
  | swchb
  | swbcnt
  | intim
  | timint
  deriving DecidableEq, Repr

/-- The write registers of R320. -/
inductive RiotWriteReg where
  | portA
  | swacnt
  | portB
  | swbcnt
  | timer (d : Divisor)
  /-- The PA7 edge-detect control, ignored (R331). -/
  | edgeControl
  deriving DecidableEq, Repr

/-- The read rows of R320, by the offset's lines A2, A1, A0. -/
def riotReadReg (o : BitVec 5) : RiotReadReg :=
  if o.getLsbD 2 then (if o.getLsbD 0 then .timint else .intim)
  else if o.getLsbD 1 then (if o.getLsbD 0 then .swbcnt else .swchb)
  else (if o.getLsbD 0 then .swacnt else .swcha)

/-- The write rows of R320, by the offset's lines A4, A2, A1, A0. -/
def riotWriteReg (o : BitVec 5) : RiotWriteReg :=
  if o.getLsbD 2 then (if o.getLsbD 4 then .timer (divisorOf (o.setWidth 2)) else .edgeControl)
  else if o.getLsbD 1 then (if o.getLsbD 0 then .swbcnt else .portB)
  else (if o.getLsbD 0 then .swacnt else .portA)

/-- A port's data register as read (R328). -/
def portRead (out ddr input : Byte) : Byte := (out &&& ddr) ||| (input &&& ~~~ddr)

/-- The byte a read returns (R320, R323, R326, R328). -/
def Riot.value (i : Inputs) (r : Riot) : RiotReadReg → Byte
  | .swcha => portRead r.orA r.ddrA i.inA
  | .swacnt => r.ddrA
  | .swchb => portRead r.orB r.ddrB i.inB
  | .swbcnt => r.ddrB
  | .intim => r.count
  | .timint => if r.flag then 0x80 else 0

/-- The RIOT after a read: only INTIM has a side effect (R321, R323). -/
def Riot.afterRead (p : Params) (r : Riot) : RiotReadReg → Riot
  | .intim => { r with flag := false, fast := if p.timerReadRestoresDivisor then false else r.fast }
  | _ => r

/-- A write to a RIOT register (R320, R324, R328, R331). -/
def Riot.write (r : Riot) (reg : RiotWriteReg) (v : Byte) : Riot :=
  match reg with
  | .portA => { r with orA := v }
  | .swacnt => { r with ddrA := v }
  | .portB => { r with orB := v }
  | .swbcnt => { r with ddrB := v }
  | .timer d => { r with count := v, div := d, pre := 1, flag := false, fast := false }
  | .edgeControl => r

/-- One RIOT tick (R325). -/
def Riot.tick (r : Riot) : Riot :=
  if r.pre ≤ 1 then
    let wraps := r.count == 0
    let fast := r.fast || wraps
    { r with
      flag := r.flag || wraps
      fast := fast
      count := r.count - 1
      pre := if fast then 1 else r.div.toNat }
  else { r with pre := r.pre - 1 }

end Sys2Proof.Machine
end

