-- ==== Sys2Proof/Machine/Objects.lean ====
section
/-! DEFINITION. What the TIA draws at one colour clock: playfield, players, missiles and ball
(60_exceptions.md R360 to R367), their collisions (R389, R390), priority and colour (R380 to R382, R394). -/

namespace Sys2Proof.Machine

/-- Bit `k` of the 20-bit playfield pattern (R360). -/
def TiaRegs.pfPattern (r : TiaRegs) (k : Nat) : Bool :=
  if k < 4 then bitAt r.pf0 (4 + k)
  else if k < 12 then bitAt r.pf1 (11 - k)
  else bitAt r.pf2 (k - 12)

/-- CTRLPF.REF (R381). -/
def TiaRegs.ref (r : TiaRegs) : Bool := bitAt r.ctrlpf 0

/-- CTRLPF.SCORE (R381). -/
def TiaRegs.score (r : TiaRegs) : Bool := bitAt r.ctrlpf 1

/-- CTRLPF.PFP (R381). -/
def TiaRegs.pfp (r : TiaRegs) : Bool := bitAt r.ctrlpf 2

/-- The playfield bit of column `x` (R360): the right half repeats or mirrors the pattern. -/
def TiaRegs.playfieldAt (r : TiaRegs) (x : Nat) : Bool :=
  let k := (x % 80) / 4
  if x < 80 then r.pfPattern k
  else if r.ref then r.pfPattern (19 - k)
  else r.pfPattern k

/-- NUSIZ[2:0]. -/
def nusizMode (nusiz : Byte) : Nat := nusiz.toNat % 8

/-- The copy offsets of a player and of its missile (R363). -/
def copyOffsets (nusiz : Byte) : List Nat :=
  match nusizMode nusiz with
  | 1 => [0, 16]
  | 2 => [0, 32]
  | 3 => [0, 16, 32]
  | 4 => [0, 64]
  | 6 => [0, 32, 64]
  | _ => [0]

/-- The player scale m (R363). -/
def playerScale (nusiz : Byte) : Nat :=
  match nusizMode nusiz with
  | 5 => 2
  | 7 => 4
  | _ => 1

/-- A width of 1, 2, 4 or 8 columns from bits 5 and 4 of NUSIZ or CTRLPF (R365, R366). -/
def objectWidth (reg : Byte) : Nat := 2 ^ (reg.toNat / 16 % 4)

/-- `(c - s) mod 160` for a counter value and an offset of at most 160 (R362, R365). -/
def columnOffset (c s : Nat) : Nat := (c + 160 - s) % 160

/-- Player activity (R362, R364): counter, NUSIZ, shape, REFP. -/
def playerActive (p : Params) (c : Nat) (nusiz shape refp : Byte) : Bool :=
  let m := playerScale nusiz
  let wd := if 1 < m ∧ p.widePlayerDelay then 1 else 0
  (copyOffsets nusiz).any fun s =>
    let d := columnOffset c (s + wd)
    decide (d < 8 * m) && (if bitAt refp 3 then bitAt shape (d / m) else bitAt shape (7 - d / m))

/-- Missile activity (R365): counter, NUSIZ, ENAM, RESMP. -/
def missileActive (c : Nat) (nusiz enam resmp : Byte) : Bool :=
  bitAt enam 1 && !bitAt resmp 1
    && (copyOffsets nusiz).any fun s => decide (columnOffset c s < objectWidth nusiz)

/-- Ball activity (R366): counter, enable in use, CTRLPF. -/
def ballActive (c : Nat) (enable ctrlpf : Byte) : Bool :=
  bitAt enable 1 && decide (c < objectWidth ctrlpf)

/-- The shape drawn for player 0 (R367). -/
def TiaRegs.shape0 (r : TiaRegs) : Byte := if bitAt r.vdelp0 0 then r.grp0Old else r.grp0New

/-- The shape drawn for player 1 (R367). -/
def TiaRegs.shape1 (r : TiaRegs) : Byte := if bitAt r.vdelp1 0 then r.grp1Old else r.grp1New

/-- The ball's enable in use (R367). -/
def TiaRegs.ballEnable (r : TiaRegs) : Byte := if bitAt r.vdelbl 0 then r.enablOld else r.enablNew

/-- Which of the six drawables are active at a colour clock: `act` of R344. -/
structure Active where
  p0 : Bool
  p1 : Bool
  m0 : Bool
  m1 : Bool
  bl : Bool
  pf : Bool
  deriving DecidableEq, Repr

/-- `act` of R344, from the registers, the counters before the tick's increment and the latched playfield bit. -/
def activeSet (p : Params) (r : TiaRegs) (pos : Positions) (pfbit : Bool) : Active where
  p0 := playerActive p pos.p0 r.nusiz0 r.shape0 r.refp0
  p1 := playerActive p pos.p1 r.nusiz1 r.shape1 r.refp1
  m0 := missileActive pos.m0 r.nusiz0 r.enam0 r.resmp0
  m1 := missileActive pos.m1 r.nusiz1 r.enam1 r.resmp1
  bl := ballActive pos.bl r.ballEnable r.ctrlpf
  pf := pfbit

/-- `collide(act)` of R390: each latch whose two drawables are both active is set, none is cleared. -/
def Collisions.collide (c : Collisions) (a : Active) : Collisions where
  m0p1 := c.m0p1 || a.m0 && a.p1
  m0p0 := c.m0p0 || a.m0 && a.p0
  m1p0 := c.m1p0 || a.m1 && a.p0
  m1p1 := c.m1p1 || a.m1 && a.p1
  p0pf := c.p0pf || a.p0 && a.pf
  p0bl := c.p0bl || a.p0 && a.bl
  p1pf := c.p1pf || a.p1 && a.pf
  p1bl := c.p1bl || a.p1 && a.bl
  m0pf := c.m0pf || a.m0 && a.pf
  m0bl := c.m0bl || a.m0 && a.bl
  m1pf := c.m1pf || a.m1 && a.pf
  m1bl := c.m1bl || a.m1 && a.bl
  blpf := c.blpf || a.bl && a.pf
  p0p1 := c.p0p1 || a.p0 && a.p1
  m0m1 := c.m0m1 || a.m0 && a.m1

/-- The colour of player 0's pixels (R367, R394). -/
def TiaRegs.player0Colour (p : Params) (r : TiaRegs) : Byte :=
  if p.vdelRule = .self ∧ bitAt r.vdelp0 0 then r.colup0Old else r.colup0

/-- The colour of player 1's pixels (R367, R394). -/
def TiaRegs.player1Colour (p : Params) (r : TiaRegs) : Byte :=
  if p.vdelRule = .self ∧ bitAt r.vdelp1 0 then r.colup1Old else r.colup1

/-- The colour of the ball (R367, R382). -/
def TiaRegs.ballColour (p : Params) (r : TiaRegs) : Byte :=
  if p.vdelRule = .self ∧ bitAt r.vdelbl 0 then r.colupfOld else r.colupf

/-- The colour of the playfield in column `x` (R382). -/
def TiaRegs.playfieldColour (r : TiaRegs) (x : Nat) : Byte :=
  if r.score then (if x < 80 then r.colup0 else r.colup1) else r.colupf

/-- The colour of a winning playfield or ball pixel (R382, R394). -/
def TiaRegs.pfBlColour (p : Params) (r : TiaRegs) (a : Active) (x : Nat) : Byte :=
  if a.pf then r.playfieldColour x else r.ballColour p

/-- The colour of a winning player or missile, in the order of PM_PRIORITY; `other` where none is active (R394).
A missile takes the undelayed colour, and where a player and its missile are both active under `pair`, where R394 makes
the two one layer, the player wins (DESIGN CHOICE, log 21). -/
def TiaRegs.playerColour (p : Params) (r : TiaRegs) (a : Active) (other : Byte) : Byte :=
  match p.pmPriority with
  | .pair =>
    if a.p0 then r.player0Colour p
    else if a.m0 then r.colup0
    else if a.p1 then r.player1Colour p
    else if a.m1 then r.colup1
    else other
  | .playersFirst =>
    if a.p0 then r.player0Colour p
    else if a.p1 then r.player1Colour p
    else if a.m0 then r.colup0
    else if a.m1 then r.colup1
    else other

/-- `colour(act, x)` of R394. -/
def TiaRegs.colour (p : Params) (r : TiaRegs) (a : Active) (x : Nat) : Byte :=
  if r.pfp then
    if a.pf || a.bl then r.pfBlColour p a x else r.playerColour p a r.colubk
  else
    r.playerColour p a (if a.pf || a.bl then r.pfBlColour p a x else r.colubk)

end Sys2Proof.Machine
end

