-- ==== Sys2Proof/Machine/Tia.lean ====
section
/-! DEFINITION. The TIA: one tick (60_exceptions.md R344), the end of a line and of a frame (R345, R352, R395,
R396), reads (R342, R386, R387) and writes (R341, R343, R368, R371, R374, R375, R384). -/

namespace Sys2Proof.Machine

/-- VBLANK bit 1: the pixel output is blanked (R351, R355). -/
def TiaRegs.blanked (r : TiaRegs) : Bool := bitAt r.vblank 1

/-- Whether objects get the normal motion clock at colour clock `h`: `clk` of R344. -/
def motionClock (ext : Bool) (h : Nat) : Bool := decide (68 ≤ h) && !(ext && decide (h < 76))

/-- The number of pulses `p(o)` a motion register asks for (R374). -/
def pulseCount (hm : Byte) : Nat := (hm.toNat / 16) ^^^ 8

/-- `hmove_pulse(o)` of R344 and R374: the tick is pulse slot k and k is below the object's count. -/
def hmovePulse (p : Params) (m : Motion) (hm : Byte) : Bool :=
  let start := p.hmovePulseStart.val
  m.active && decide (start ≤ m.t) && decide ((m.t - start) % 4 = 0)
    && decide ((m.t - start) / 4 < pulseCount hm)

/-- `hmove_advance()` of R344 and R374: the window closes after slot 15. -/
def Motion.advance (p : Params) (m : Motion) : Motion :=
  if m.active then { m with t := m.t + 1, active := decide (m.t < p.hmovePulseStart.val + 60) } else m

/-- A position counter after a tick on which its object is clocked, or not (R370). -/
def stepPosition (clocked : Bool) (c : Nat) : Nat := if clocked then (c + 1) % 160 else c

/-- RESMP_OFFSET(m) (R377). -/
def resmpOffset (p : Params) (scale : Nat) : Nat :=
  match scale with
  | 1 => p.resmpOffsetSingle
  | 2 => p.resmpOffsetDouble
  | _ => p.resmpOffsetQuad

/-- A missile's counter after its RESMP lock (R377): `resmp`, the player's NUSIZ and counter, its own counter. -/
def lockMissile (p : Params) (resmp nusiz : Byte) (player missile : Nat) : Nat :=
  if bitAt resmp 1 then columnOffset player (resmpOffset p (playerScale nusiz) % 160) else missile

/-- The five counters after a tick: the clocked objects advance, then the RESMP locks apply (R344). -/
def Positions.tick (p : Params) (r : TiaRegs) (m : Motion) (clk : Bool) (pos : Positions) : Positions :=
  let p0 := stepPosition (clk || hmovePulse p m r.hmp0) pos.p0
  let p1 := stepPosition (clk || hmovePulse p m r.hmp1) pos.p1
  { p0 := p0
    p1 := p1
    m0 := lockMissile p r.resmp0 r.nusiz0 p0 (stepPosition (clk || hmovePulse p m r.hmm0) pos.m0)
    m1 := lockMissile p r.resmp1 r.nusiz1 p1 (stepPosition (clk || hmovePulse p m r.hmm1) pos.m1)
    bl := stepPosition (clk || hmovePulse p m r.hmbl) pos.bl }

/-- A line is visible when its `vcount` lies in the 192 lines from VISIBLE_FIRST_LINE (R353, R395). -/
def lineVisible (p : Params) (v : Nat) : Bool :=
  decide (p.visibleFirstLine.val ≤ v) && decide (v < p.visibleFirstLine.val + 192)

/-- The raster after the row just written is committed, if its line is visible (R345, R395). -/
def Tia.committed (p : Params) (t : Tia) : Raster :=
  if lineVisible p t.vcount then t.raster.commit (t.vcount - p.visibleFirstLine.val) t.line else t.raster

/-- `end_of_line()` of R345, with the frame completion of R352 and R396. -/
def Tia.endOfLine (p : Params) (t : Tia) : Tia :=
  let raster := t.committed p
  let v := (t.vcount + 1) % 262
  { t with
    hcount := 0
    waiting := false
    vcount := v
    line := []
    raster := if v = 0 then [] else raster
    frames := if v = 0 then raster :: t.frames else t.frames }

/-- A VSYNC write that starts a frame under VSYNC_RESETS_LINE (R354, R396). -/
def Tia.startFrame (t : Tia) : Tia :=
  { t with vcount := 0, raster := [], frames := t.raster :: t.frames }

/-- The pixel of the colour clock being processed (R344, R351): 0 in the extended blank and when blanked. -/
def Tia.pixel (p : Params) (t : Tia) (a : Active) : Byte :=
  if motionClock t.motion.ext t.hcount && !t.regs.blanked then t.regs.colour p a (t.hcount - 68) else 0

/-- The playfield bit used at the colour clock being processed (R361). -/
def Tia.latchedPf (t : Tia) : Bool :=
  if 68 ≤ t.hcount ∧ (t.hcount - 68) % 4 = 0 then t.regs.playfieldAt (t.hcount - 68) else t.pfbit

/-- Whether collisions are detected at the colour clock being processed (R390, R392). -/
def Tia.detects (p : Params) (t : Tia) : Bool :=
  motionClock t.motion.ext t.hcount && !(p.vblankGatesCollisions && t.regs.blanked)

/-- R344 up to the advance of `hcount`: the colour clock at the current `hcount` is drawn, objects move. -/
def Tia.draw (p : Params) (t : Tia) : Tia :=
  let clk := motionClock t.motion.ext t.hcount
  let pf := t.latchedPf
  let act := activeSet p t.regs t.pos pf
  { t with
    pfbit := pf
    cx := if t.detects p then t.cx.collide act else t.cx
    line := if 68 ≤ t.hcount then t.line.write (t.hcount - 68) (t.pixel p act) else t.line
    pos := t.pos.tick p t.regs t.motion clk
    motion := t.motion.advance p }

/-- The end of R344: `hcount` advances, the extended blank ends at 76, the line ends at 228. -/
def Tia.advance (p : Params) (t : Tia) : Tia :=
  let h := t.hcount + 1
  let t' : Tia := { t with
    hcount := h
    motion := { t.motion with ext := t.motion.ext && decide (h ≠ 76) } }
  if 228 ≤ h then t'.endOfLine p else t'

/-- One TIA tick (R344). -/
def Tia.tick (p : Params) (t : Tia) : Tia := (t.draw p).advance p

/-- The three ticks of a CPU cycle (R410). -/
def Tia.tick3 (p : Params) (t : Tia) : Tia := ((t.tick p).tick p).tick p

/-- The names of R341's write registers and strobes. -/
inductive TiaReg where
  | vsync | vblank | wsync | rsync | nusiz0 | nusiz1 | colup0 | colup1 | colupf | colubk | ctrlpf
  | refp0 | refp1 | pf0 | pf1 | pf2 | resp0 | resp1 | resm0 | resm1 | resbl
  | audc0 | audc1 | audf0 | audf1 | audv0 | audv1 | grp0 | grp1 | enam0 | enam1 | enabl
  | hmp0 | hmp1 | hmm0 | hmm1 | hmbl | vdelp0 | vdelp1 | vdelbl | resmp0 | resmp1 | hmove | hmclr | cxclr
  deriving DecidableEq, Repr

/-- R341's rows in the order of their offsets, $00 to $2C. -/
def tiaWriteMap : List TiaReg :=
  [.vsync, .vblank, .wsync, .rsync, .nusiz0, .nusiz1, .colup0, .colup1, .colupf, .colubk, .ctrlpf,
    .refp0, .refp1, .pf0, .pf1, .pf2, .resp0, .resp1, .resm0, .resm1, .resbl,
    .audc0, .audc1, .audf0, .audf1, .audv0, .audv1, .grp0, .grp1, .enam0, .enam1, .enabl,
    .hmp0, .hmp1, .hmm0, .hmm1, .hmbl, .vdelp0, .vdelp1, .vdelbl, .resmp0, .resmp1, .hmove, .hmclr, .cxclr]

/-- The write register at an offset; $2D to $3F have none (R341). -/
def tiaRegAt (o : BitVec 6) : Option TiaReg := tiaWriteMap[o.toNat]?

/-- The mask of a write register (R341); a strobe stores nothing. -/
def TiaReg.mask : TiaReg → Byte
  | .vsync | .enam0 | .enam1 | .enabl | .resmp0 | .resmp1 => 0x02
  | .vblank => 0xC2
  | .nusiz0 | .nusiz1 | .ctrlpf => 0x37
  | .colup0 | .colup1 | .colupf | .colubk => 0xFE
  | .refp0 | .refp1 => 0x08
  | .pf0 | .hmp0 | .hmp1 | .hmm0 | .hmm1 | .hmbl => 0xF0
  | .pf1 | .pf2 | .grp0 | .grp1 => 0xFF
  | .audc0 | .audc1 | .audv0 | .audv1 => 0x0F
  | .audf0 | .audf1 => 0x1F
  | .vdelp0 | .vdelp1 | .vdelbl => 0x01
  | .wsync | .rsync | .resp0 | .resp1 | .resm0 | .resm1 | .resbl | .hmove | .hmclr | .cxclr => 0

/-- The stored registers after a write of the masked value `w` (R341, R368, R373). -/
def TiaRegs.write (p : Params) (r : TiaRegs) (reg : TiaReg) (w : Byte) : TiaRegs :=
  let own := decide (p.vdelRule = .self)
  match reg with
  | .vsync => { r with vsync := w }
  | .vblank => { r with vblank := w }
  | .nusiz0 => { r with nusiz0 := w }
  | .nusiz1 => { r with nusiz1 := w }
  | .colup0 => { r with colup0 := w, colup0Old := if own then r.colup0 else r.colup0Old }
  | .colup1 => { r with colup1 := w, colup1Old := if own then r.colup1 else r.colup1Old }
  | .colupf => { r with colupf := w, colupfOld := if own then r.colupf else r.colupfOld }
  | .colubk => { r with colubk := w }
  | .ctrlpf => { r with ctrlpf := w }
  | .refp0 => { r with refp0 := w }
  | .refp1 => { r with refp1 := w }
  | .pf0 => { r with pf0 := w }
  | .pf1 => { r with pf1 := w }
  | .pf2 => { r with pf2 := w }
  | .audc0 => { r with audc0 := w }
  | .audc1 => { r with audc1 := w }
  | .audf0 => { r with audf0 := w }
  | .audf1 => { r with audf1 := w }
  | .audv0 => { r with audv0 := w }
  | .audv1 => { r with audv1 := w }
  | .grp0 =>
    { r with
      grp0New := w
      grp0Old := if own then r.grp0New else r.grp0Old
      grp1Old := if own then r.grp1Old else r.grp1New }
  | .grp1 =>
    { r with
      grp1New := w
      grp1Old := if own then r.grp1New else r.grp1Old
      grp0Old := if own then r.grp0Old else r.grp0New
      enablOld := if own then r.enablOld else r.enablNew }
  | .enam0 => { r with enam0 := w }
  | .enam1 => { r with enam1 := w }
  | .enabl => { r with enablNew := w, enablOld := if own then r.enablNew else r.enablOld }
  | .hmp0 => { r with hmp0 := w }
  | .hmp1 => { r with hmp1 := w }
  | .hmm0 => { r with hmm0 := w }
  | .hmm1 => { r with hmm1 := w }
  | .hmbl => { r with hmbl := w }
  | .vdelp0 => { r with vdelp0 := w }
  | .vdelp1 => { r with vdelp1 := w }
  | .vdelbl => { r with vdelbl := w }
  | .resmp0 => { r with resmp0 := w }
  | .resmp1 => { r with resmp1 := w }
  | .hmclr => { r with hmp0 := 0, hmp1 := 0, hmm0 := 0, hmm1 := 0, hmbl := 0 }
  | .wsync | .rsync | .resp0 | .resp1 | .resm0 | .resm1 | .resbl | .hmove | .cxclr => r

/-- Whether a VSYNC write of the masked value `w` starts a frame (R354). -/
def Tia.vsyncStarts (p : Params) (t : Tia) (w : Byte) : Bool :=
  p.vsyncResetsLine && !bitAt t.regs.vsync 1 && bitAt w 1

/-- The effect of a write that acts at the bus access, before the cycle's ticks (R343). -/
def Tia.writeReg (p : Params) (t : Tia) (reg : TiaReg) (v : Byte) : Tia :=
  let w := v &&& reg.mask
  let t' : Tia := { t with regs := t.regs.write p reg w }
  match reg with
  | .vsync => if t.vsyncStarts p w then t'.startFrame else t'
  | .vblank => if bitAt w 6 then t' else { t' with latch4 := true, latch5 := true }
  | .wsync => { t' with waiting := true }
  | .hmove =>
    { t' with motion := { active := true, t := 0, ext := decide (t.hcount < 68) || t.motion.ext } }
  | .cxclr => { t' with cx := noCollisions }
  | _ => t'

/-- A TIA write at an offset, as it acts at the bus access (R341). -/
def Tia.write (p : Params) (t : Tia) (o : BitVec 6) (v : Byte) : Tia :=
  match tiaRegAt o with
  | some reg => t.writeReg p reg v
  | none => t

/-- The counter value a RESP strobe leaves (R371): `delay` is D, `blankPos` is H. -/
def Tia.strobePosition (t : Tia) (delay blankPos : Fin 16) : Nat :=
  if motionClock t.motion.ext t.hcount then (160 - delay.val) % 160 else (160 - blankPos.val) % 160

/-- The effect of a write that acts at the end of its cycle (R371, R384, R410). -/
def Tia.deferredReg (p : Params) (t : Tia) (reg : TiaReg) : Tia :=
  let player := t.strobePosition p.respDelayP p.respHblankPosP
  let small := t.strobePosition p.respDelayMB p.respHblankPosMB
  match reg with
  | .resp0 => { t with pos := { t.pos with p0 := player } }
  | .resp1 => { t with pos := { t.pos with p1 := player } }
  | .resm0 => { t with pos := { t.pos with m0 := small } }
  | .resm1 => { t with pos := { t.pos with m1 := small } }
  | .resbl => { t with pos := { t.pos with bl := small } }
  | .rsync =>
    match p.rsyncEffect with
    | .ignore => t
    | .resetHcount => t.endOfLine p
  | _ => t

/-- The deferred effect of a TIA write at an offset (R410 step 4). -/
def Tia.deferred (p : Params) (t : Tia) (o : BitVec 6) : Tia :=
  match tiaRegAt o with
  | some reg => t.deferredReg p reg
  | none => t

/-- A byte whose bits 7 and 6 are driven and whose others are undriven (R342). -/
def drive2 (b7 b6 : Bool) (noise : Byte) : Byte :=
  BitVec.ofBool b7 ++ BitVec.ofBool b6 ++ noise.setWidth 6

/-- A byte whose bit 7 alone is driven (R342). -/
def drive1 (b7 : Bool) (noise : Byte) : Byte := BitVec.ofBool b7 ++ noise.setWidth 7

/-- Bit 7 of INPT0 to INPT3 (R386): 0 while VBLANK bit 7 dumps the paddles. -/
def Tia.paddle (t : Tia) (pad : Bool) : Bool := pad && !bitAt t.regs.vblank 7

/-- Bit 7 of INPT4 or INPT5 (R387): the button, or its latch while VBLANK bit 6 = 1. -/
def Tia.button (t : Tia) (fire latch : Bool) : Bool := if bitAt t.regs.vblank 6 then latch else fire

/-- The byte a TIA read returns (R342); `noise` supplies the undriven bits. -/
def Tia.value (i : Inputs) (t : Tia) (noise : Byte) (o : BitVec 4) : Byte :=
  match o.toNat with
  | 0x0 => drive2 t.cx.m0p1 t.cx.m0p0 noise
  | 0x1 => drive2 t.cx.m1p0 t.cx.m1p1 noise
  | 0x2 => drive2 t.cx.p0pf t.cx.p0bl noise
  | 0x3 => drive2 t.cx.p1pf t.cx.p1bl noise
  | 0x4 => drive2 t.cx.m0pf t.cx.m0bl noise
  | 0x5 => drive2 t.cx.m1pf t.cx.m1bl noise
  | 0x6 => drive1 t.cx.blpf noise
  | 0x7 => drive2 t.cx.p0p1 t.cx.m0m1 noise
  | 0x8 => drive1 (t.paddle i.pad0) noise
  | 0x9 => drive1 (t.paddle i.pad1) noise
  | 0xA => drive1 (t.paddle i.pad2) noise
  | 0xB => drive1 (t.paddle i.pad3) noise
  | 0xC => drive1 (t.button i.fire0 t.latch4) noise
  | 0xD => drive1 (t.button i.fire1 t.latch5) noise
  | _ => noise

/-- The fire-button latches at an input sample, before each CPU step (R387). -/
def Tia.sampleButtons (i : Inputs) (t : Tia) : Tia :=
  if bitAt t.regs.vblank 6 then { t with latch4 := t.latch4 && i.fire0, latch5 := t.latch5 && i.fire1 }
  else { t with latch4 := true, latch5 := true }

/-- The TIA after a reset (70_reset_and_hazards.md R430 step 4, R432): the frame in progress is abandoned, what
R431 draws is kept (log 19). -/
def Tia.hostReset (t : Tia) : Tia :=
  { t with
    hcount := 0
    vcount := 0
    waiting := false
    motion := { t.motion with active := false, ext := false }
    line := []
    raster := [] }

end Sys2Proof.Machine
end

