-- ==== Sys2Proof/Machine/Bus.lean ====
section
/-! DEFINITION. The memory bus (20_memory.md R60, R61, R64, R65): which unit an address selects, and one
access's effect on it, without the cycle's ticks. -/

namespace Sys2Proof.Machine

/-- The four targets of R61. -/
inductive Device where
  | cartridge
  | tia
  | ram
  | riot
  deriving DecidableEq, Repr

/-- The bus address of a CPU address: bits 15 to 13 are dropped (R60). -/
def busAddr (a : Word) : BitVec 13 := a.setWidth 13

/-- A row of the decode table. -/
structure BusRow where
  mask : BitVec 13
  base : BitVec 13
  device : Device
  deriving DecidableEq, Repr

/-- Whether a row selects a bus address. -/
def BusRow.hits (r : BusRow) (ba : BitVec 13) : Bool := ba &&& r.mask == r.base

/-- The decode table of R61, in its order. -/
def busTable : List BusRow :=
  [⟨0x1000, 0x1000, .cartridge⟩, ⟨0x1080, 0x0000, .tia⟩, ⟨0x1280, 0x0080, .ram⟩, ⟨0x1280, 0x0280, .riot⟩]

/-- The first row that selects the address; the four rows cover every address (R61), so the default is never used. -/
def deviceAt (ba : BitVec 13) : Device :=
  match busTable.find? (fun r => r.hits ba) with
  | some r => r.device
  | none => .cartridge

/-- The offset a unit sees in a CPU address (R61), at the width it decodes. -/
def busOffset (n : Nat) (a : Word) : BitVec n := a.setWidth n

/-- One bus read: the byte and the effect on the target (R64, R65, R69, R71). -/
def busRead (a : Word) (s : State) : Byte × State :=
  match deviceAt (busAddr a) with
  | .cartridge =>
    let v := s.cart.peek (busOffset 12 a)
    (v, { s with cart := s.cart.access (busOffset 12 a) false v })
  | .tia => (s.tia.value s.inputs (Config.undriven s.draws) (busOffset 4 a), { s with draws := s.draws + 1 })
  | .ram => (s.ram.read (busOffset 7 a).toNat, s)
  | .riot =>
    let reg := riotReadReg (busOffset 5 a)
    (s.riot.value s.inputs reg, { s with riot := s.riot.afterRead s.params reg })

/-- One bus write, as it acts at the access (R64, R65, R69, R72). -/
def busWrite (a : Word) (v : Byte) (s : State) : State :=
  match deviceAt (busAddr a) with
  | .cartridge => { s with cart := s.cart.access (busOffset 12 a) true v }
  | .tia => { s with tia := s.tia.write s.params (busOffset 6 a) v }
  | .ram => { s with ram := s.ram.write (busOffset 7 a).toNat v }
  | .riot => { s with riot := s.riot.write (riotWriteReg (busOffset 5 a)) v }

/-- The effect of a write that is deferred to the end of its cycle (60_exceptions.md R410 step 4). -/
def busDeferred (a : Word) (s : State) : State :=
  match deviceAt (busAddr a) with
  | .tia => { s with tia := s.tia.deferred s.params (busOffset 6 a) }
  | _ => s

end Sys2Proof.Machine
end

