-- ==== Sys2Proof/Machine/Flags.lean ====
section
/-! DEFINITION. The flags and the ALU: the byte form of P (10_state.md R34), NZ (00_scope.md R12), and the
arithmetic of 41_arith_logic.md and 42_shift_incdec.md as functions of bytes and flags. -/

namespace Sys2Proof.Machine

/-- `pack(P, b)` of 10_state.md R34. -/
def Flags.pack (p : Flags) (b : Bool) : Byte :=
  BitVec.ofBool p.n ++ BitVec.ofBool p.v ++ 1#1 ++ BitVec.ofBool b
    ++ BitVec.ofBool p.d ++ BitVec.ofBool p.i ++ BitVec.ofBool p.z ++ BitVec.ofBool p.c

/-- `unpack(v)` of 10_state.md R34; bits 5 and 4 are ignored. -/
def Flags.unpack (v : Byte) : Flags where
  n := bitAt v 7
  v := bitAt v 6
  d := bitAt v 3
  i := bitAt v 2
  z := bitAt v 1
  c := bitAt v 0

/-- `NZ(v)` of 00_scope.md R12. -/
def Flags.nz (p : Flags) (v : Byte) : Flags := { p with n := bitAt v 7, z := v == 0 }

/-- A carry as a number. -/
def carryNat (c : Bool) : Nat := if c then 1 else 0

/-- The 9-bit sum `a + m + c` of 41_arith_logic.md R184. -/
def sum9 (a m : Byte) (c : Bool) : BitVec 9 := a.setWidth 9 + m.setWidth 9 + (BitVec.ofBool c).setWidth 9

/-- Binary ADC (R184): the result and the flags. -/
def adcBinary (p : Flags) (a m : Byte) : Byte × Flags :=
  let t := sum9 a m p.c
  let r : Byte := t.setWidth 8
  (r, { p with v := bitAt (~~~(a ^^^ m) &&& (a ^^^ r)) 7, c := t.getLsbD 8 }.nz r)

/-- Binary SBC (R185): the result and the flags. -/
def sbcBinary (p : Flags) (a m : Byte) : Byte × Flags :=
  let t := sum9 a (m ^^^ 0xFF) p.c
  let r : Byte := t.setWidth 8
  (r, { p with v := bitAt ((a ^^^ r) &&& (a ^^^ m)) 7, c := t.getLsbD 8 }.nz r)

/-- The low digit `al` of a decimal addition, with its carry into the high digit (R182). -/
def decimalAddLow (a m : Byte) (c : Bool) : Nat :=
  let al := a.toNat % 16 + m.toNat % 16 + carryNat c
  if 10 ≤ al then (al + 6) % 16 + 16 else al

/-- Decimal ADC (R182). -/
def adcDecimal (p : Flags) (a m : Byte) : Byte × Flags :=
  let al := decimalAddLow a m p.c
  let r := (a &&& 0xF0).toNat + (m &&& 0xF0).toNat + al
  let rs : Int := signedByte (a &&& 0xF0) + signedByte (m &&& 0xF0) + al
  let r' := if 0xA0 ≤ r then r + 0x60 else r
  (BitVec.ofNat 8 r',
    { p with
      n := decide (128 ≤ rs % 256)
      v := decide (rs < -128) || decide (127 < rs)
      c := decide (0x100 ≤ r')
      z := (sum9 a m p.c).setWidth 8 == 0#8 })

/-- The low digit `al` of a decimal subtraction, with its borrow from the high digit (R183). -/
def decimalSubLow (a m : Byte) (c : Bool) : Int :=
  let al : Int := (a.toNat % 16 : Nat) - (m.toNat % 16 : Nat) + carryNat c - 1
  if al < 0 then (al - 6) % 16 - 16 else al

/-- Decimal SBC (R183): the result is decimal, the flags are those of the binary subtraction. -/
def sbcDecimal (p : Flags) (a m : Byte) : Byte × Flags :=
  let r : Int := (a &&& 0xF0).toNat - (m &&& 0xF0).toNat + decimalSubLow a m p.c
  (BitVec.ofInt 8 (if r < 0 then r - 0x60 else r), (sbcBinary p a m).2)

/-- ADC (R181, R184). -/
def adc (mode : DecimalMode) (p : Flags) (a m : Byte) : Byte × Flags :=
  if p.d then
    match mode with
    | .nmosBcd => adcDecimal p a m
    | .binaryOnly => adcBinary p a m
  else adcBinary p a m

/-- SBC (R181, R185). -/
def sbc (mode : DecimalMode) (p : Flags) (a m : Byte) : Byte × Flags :=
  if p.d then
    match mode with
    | .nmosBcd => sbcDecimal p a m
    | .binaryOnly => sbcBinary p a m
  else sbcBinary p a m

/-- The flags of a compare of register value `r` with `m` (R189 to R191). -/
def Flags.compare (p : Flags) (r m : Byte) : Flags :=
  { p with c := decide (m.toNat ≤ r.toNat), z := r == m, n := bitAt (r - m) 7 }

/-- The flags of BIT (R192). -/
def Flags.bitTest (p : Flags) (a m : Byte) : Flags :=
  { p with z := (a &&& m) == 0, n := bitAt m 7, v := bitAt m 6 }

/-- ASL (42_shift_incdec.md R220): the result and the flags. -/
def aslByte (p : Flags) (m : Byte) : Byte × Flags :=
  let r := m <<< 1
  (r, { p with c := bitAt m 7 }.nz r)

/-- LSR (R221). -/
def lsrByte (p : Flags) (m : Byte) : Byte × Flags :=
  let r := m >>> 1
  (r, { p with c := bitAt m 0 }.nz r)

/-- ROL (R222). -/
def rolByte (p : Flags) (m : Byte) : Byte × Flags :=
  let r := (m <<< 1) ||| (BitVec.ofBool p.c).setWidth 8
  (r, { p with c := bitAt m 7 }.nz r)

/-- ROR (R223). -/
def rorByte (p : Flags) (m : Byte) : Byte × Flags :=
  let r := (m >>> 1) ||| ((BitVec.ofBool p.c).setWidth 8 <<< 7)
  (r, { p with c := bitAt m 0 }.nz r)

/-- INC, INX and INY (R224, R226, R227). -/
def incByte (p : Flags) (m : Byte) : Byte × Flags := (m + 1, p.nz (m + 1))

/-- DEC, DEX and DEY (R225, R228, R229). -/
def decByte (p : Flags) (m : Byte) : Byte × Flags := (m - 1, p.nz (m - 1))

end Sys2Proof.Machine
end

