-- ==== Sys2Proof/Machine/Ops.lean ====
section
/-! DEFINITION. The shared operations: the CPU cycles of the clock arbiter (60_exceptions.md R410, R412), registers,
the stack (10_state.md R37), the one trap entry and its return (60_exceptions.md R307, R308), the fault state
(R300) and the reset (70_reset_and_hazards.md R430). -/

namespace Sys2Proof.Machine

/-- Change the CPU registers. -/
def State.mapCpu (f : Cpu → Cpu) (s : State) : State := { s with cpu := f s.cpu }

/-- Set PC. -/
def State.setPc (a : Word) (s : State) : State := { s with cpu := { s.cpu with pc := a } }

/-- Steps 2 and 3 of a cycle (R410): three TIA ticks and one RIOT tick; the cycle is counted. -/
def ticks (s : State) : State :=
  { s with tia := s.tia.tick3 s.params, riot := s.riot.tick, cycles := s.cycles + 1 }

/-- Run wait cycles while the wait latch is set, at most `n` of them (R412). -/
def holdFor : Nat → State → State
  | 0, s => s
  | n + 1, s => if s.tia.waiting then holdFor n (ticks s) else s

/-- The wait-state hold of R412; 76 cycles reach the end of any line (R356). -/
def hold (s : State) : State := holdFor 76 s

/-- A read cycle, held first if the wait latch is set (R410, R412): the byte and the state after the cycle. -/
def readCycle (a : Word) (s : State) : Byte × State :=
  let r := busRead a (hold s)
  (r.1, ticks r.2)

/-- `DummyRead` (00_scope.md R13): a read cycle whose byte is discarded. -/
def dummyRead (a : Word) (s : State) : State := (readCycle a s).2

/-- A write cycle, which is never held (R410, R412). -/
def writeCycle (a : Word) (v : Byte) (s : State) : State := busDeferred a (ticks (busWrite a v s))

/-- A read cycle at PC, then PC + 1 (10_state.md R39). -/
def fetchByte (s : State) : Byte × State :=
  let r := readCycle s.cpu.pc s
  (r.1, r.2.mapCpu fun c => { c with pc := c.pc + 1 })

/-- A push cycle: write at the stack address, then S - 1 (10_state.md R37). -/
def pushCycle (v : Byte) (s : State) : State :=
  (writeCycle (stackAddr s.cpu.s) v s).mapCpu fun c => { c with s := c.s - 1 }

/-- The cycle `D {$01, S}`, S + 1 with which pulls begin (44_stack_flags_system.md R272). -/
def prePullCycle (s : State) : State :=
  (dummyRead (stackAddr s.cpu.s) s).mapCpu fun c => { c with s := c.s + 1 }

/-- The read cycle of the byte S designates. -/
def stackReadCycle (s : State) : Byte × State := readCycle (stackAddr s.cpu.s) s

/-- The read cycle of the byte S designates, then S + 1 (43_control_transfer.md R251, R256). -/
def pullThenUp (s : State) : Byte × State :=
  let r := stackReadCycle s
  (r.1, r.2.mapCpu fun c => { c with s := c.s + 1 })

/-- Push PC, high byte first (20_memory.md R67). -/
def pushPc (s : State) : State := pushCycle (loByte s.cpu.pc) (pushCycle (hiByte s.cpu.pc) s)

/-- The BRK vector (20_memory.md R66). -/
def brkVector : Word := 0xFFFE

/-- Read a 16-bit vector in two cycles, low byte first, into PC (20_memory.md R66, R67). -/
def jumpThroughVector (v : Word) (s : State) : State :=
  let lo := readCycle v s
  let hi := readCycle (v + 1) lo.2
  hi.2.setPc (mkWord hi.1 lo.1)

/-- Trap entry (60_exceptions.md R307, 43_control_transfer.md R255 cycles 3 to 7): PC and `pack(P, 1)` are pushed, P.I
is set, control goes through the vector. -/
def takeTrap (s : State) : State :=
  let s1 := pushPc s
  let s2 := pushCycle (s1.cpu.p.pack true) s1
  jumpThroughVector brkVector (s2.mapCpu fun c => { c with p := { c.p with i := true } })

/-- Trap return (60_exceptions.md R308, 43_control_transfer.md R256 cycles 2 to 6): P, then PC, are pulled. -/
def returnFromTrap (s : State) : State :=
  let s1 := prePullCycle (dummyRead s.cpu.pc s)
  let p := pullThenUp s1
  let lo := pullThenUp (p.2.mapCpu fun c => { c with p := Flags.unpack p.1 })
  let hi := stackReadCycle lo.2
  hi.2.setPc (mkWord hi.1 lo.1)

/-- Enter the fault state after the opcode fetch (60_exceptions.md R300): the record, and the state that holds it. -/
def raiseUnimplemented (opcode : Byte) (s : State) : Result :=
  let info : FaultInfo := { opcode := opcode, pc := s.cpu.pc - 1, cycle := s.cycles }
  .fault (.unimplementedOpcode info { s with fault := some info })

/-- Stop for a cartridge that is refused (60_exceptions.md R304). -/
def refuseCartridge (s : State) : Result :=
  .fault (.invalidCartridge s.cart.rom.size s.cart.mapper s)

/-- The reset vector a cartridge holds, read without the mapper's `onAccess` (70_reset_and_hazards.md R430 step 2). -/
def Cart.resetVector (c : Cart) : Word := mkWord (c.peek 0xFFD) (c.peek 0xFFC)

/-- The RIOT after a reset: the port registers are 0 (R430 step 5), the timer is kept (log 19). -/
def Riot.hostReset (r : Riot) : Riot := { r with orA := 0, ddrA := 0, orB := 0, ddrB := 0 }

/-- The reset of 70_reset_and_hazards.md R430: one atomic action that consumes no cycle.
What R431 draws keeps its value (log 19). -/
def hostReset (s : State) : State :=
  let cart := s.cart.atResetBank (Config.resetBank s.draws)
  { s with
    cart := cart
    cpu := { s.cpu with pc := cart.resetVector, p := { s.cpu.p with i := true } }
    tia := s.tia.hostReset
    riot := s.riot.hostReset
    fault := none
    cycles := 0
    draws := s.draws + 1 }

/-- The host's reset request (70_reset_and_hazards.md R430, R433): with a refused cartridge there is no reset to take, and
the request is spent all the same (DESIGN CHOICE, log 20). -/
def takeReset (s : State) : Result := if s.cart.valid then .next (hostReset s) else refuseCartridge s

/-- The host supplies a cartridge image and a mapper identifier (60_exceptions.md R304): the machine powers up, or
the cartridge is refused. -/
def loadCartridge (rom : Rom) (mapper : MapperId) (s : State) : Result :=
  let s' : State := { s with cart := { rom := rom, mapper := mapper, bank := 0 } }
  if s'.cart.valid then .next (hostReset s') else refuseCartridge s'

/-- Sample an input vector (60_exceptions.md R330, R387, R411). -/
def sampleInputs (i : Inputs) (s : State) : State := { s with inputs := i, tia := s.tia.sampleButtons i }

end Sys2Proof.Machine
end

