-- ==== Sys2Proof/Machine/Operands.lean ====
section
/-! DEFINITION. The addressing modes (40_load_store.md R130 to R144): the cycles that follow the instruction's
own bytes, and the three classes of memory operand. -/

namespace Sys2Proof.Machine

/-- A memory operand: the mode with its operand bytes (30_encoding.md R100, R102). -/
inductive Addr where
  | zp (b : Byte)
  | zpx (b : Byte)
  | zpy (b : Byte)
  | abs (w : Word)
  | absx (w : Word)
  | absy (w : Word)
  | indx (b : Byte)
  | indy (b : Byte)
  deriving DecidableEq, Repr

/-- The address whose high byte is not yet fixed: `EA'` of R139 and R141. -/
def unfixed (base : Word) (idx : Byte) : Word := mkWord (hiByte base) (loByte base + idx)

/-- The indexed address: `EA` of R139 and R141. -/
def indexed (base : Word) (idx : Byte) : Word := base + zeroExtendByte idx

/-- Page crossing (R130). -/
def crossesPage (base : Word) (idx : Byte) : Bool := hiByte (indexed base idx) != hiByte base

/-- The indexed address with its fix-up cycle, which the read class makes on a page crossing only and the other
classes always (R139, R141, R142). -/
def indexCycles (always : Bool) (base : Word) (idx : Byte) (s : State) : Word × State :=
  (indexed base idx, if always || crossesPage base idx then dummyRead (unfixed base idx) s else s)

/-- Read a pointer from two bytes of page 0, low byte first, wrapping in the page (R140, R141). -/
def zpPointer (b : Byte) (s : State) : Word × State :=
  let lo := readCycle (pageZero b) s
  let hi := readCycle (pageZero (b + 1)) lo.2
  (mkWord hi.1 lo.1, hi.2)

/-- The effective address of a memory operand and the state after the cycles that form it; `always` for the write
and RMW classes (R136 to R141). -/
def effAddr (always : Bool) (m : Addr) (s : State) : Word × State :=
  match m with
  | .zp b => (pageZero b, s)
  | .zpx b => (pageZero (b + s.cpu.x), dummyRead (pageZero b) s)
  | .zpy b => (pageZero (b + s.cpu.y), dummyRead (pageZero b) s)
  | .abs w => (w, s)
  | .absx w => indexCycles always w s.cpu.x s
  | .absy w => indexCycles always w s.cpu.y s
  | .indx b => zpPointer (b + s.cpu.x) (dummyRead (pageZero b) s)
  | .indy b =>
    let p := zpPointer b s
    indexCycles always p.1 s.cpu.y p.2

/-- The read class (R131): the operand and the state after its read cycle. -/
def readOperand (m : Addr) (s : State) : Byte × State :=
  let e := effAddr false m s
  readCycle e.1 e.2

/-- The write class (R131). -/
def writeOperand (m : Addr) (v : Byte) (s : State) : State :=
  let e := effAddr true m s
  writeCycle e.1 v e.2

/-- The RMW class (R143): read M, write M back, write the result; the answer is M and the state. -/
def modifyOperand (m : Addr) (f : Byte → Byte) (s : State) : Byte × State :=
  let e := effAddr true m s
  let r := readCycle e.1 e.2
  (r.1, writeCycle e.1 (f r.1) (writeCycle e.1 r.1 r.2))

/-- A read-class instruction on a memory operand: `f` is its operation on the registers. -/
def readClass (f : Byte → Cpu → Cpu) (m : Addr) (s : State) : Result :=
  let r := readOperand m s
  .next (r.2.mapCpu (f r.1))

/-- A read-class instruction on an immediate operand, whose cycles are the fetches (R135). -/
def immClass (f : Byte → Cpu → Cpu) (v : Byte) (s : State) : Result := .next (s.mapCpu (f v))

/-- A write-class instruction: `f` reads the register stored. -/
def writeClass (f : Cpu → Byte) (m : Addr) (s : State) : Result := .next (writeOperand m (f s.cpu) s)

/-- An RMW instruction on memory: `f` gives the result and the flags. -/
def rmwClass (f : Flags → Byte → Byte × Flags) (m : Addr) (s : State) : Result :=
  let r := modifyOperand m (fun b => (f s.cpu.p b).1) s
  .next (r.2.mapCpu fun c => { c with p := (f c.p r.1).2 })

/-- The two-cycle implied instructions: the dummy read at PC, then the operation (R133). -/
def impliedClass (f : Cpu → Cpu) (s : State) : Result := .next ((dummyRead s.cpu.pc s).mapCpu f)

/-- The accumulator form of a shift (R134). -/
def accClass (f : Flags → Byte → Byte × Flags) (s : State) : Result :=
  impliedClass (fun c => { c with a := (f c.p c.a).1, p := (f c.p c.a).2 }) s

end Sys2Proof.Machine
end

