-- ==== Sys2Proof/Machine/Arith.lean ====
section
/-! DEFINITION. ADC and SBC, binary and decimal (41_arith_logic.md R180 to R185). -/

namespace Sys2Proof.Machine

/-- The operation of ADC (R184). -/
def Cpu.adc (mode : DecimalMode) (m : Byte) (c : Cpu) : Cpu :=
  { c with a := (Machine.adc mode c.p c.a m).1, p := (Machine.adc mode c.p c.a m).2 }

/-- The operation of SBC (R185). -/
def Cpu.sbc (mode : DecimalMode) (m : Byte) (c : Cpu) : Cpu :=
  { c with a := (Machine.sbc mode c.p c.a m).1, p := (Machine.sbc mode c.p c.a m).2 }

/-- ADC, immediate (40 R135) (R184). -/
def execAdcImm (v : Byte) (s : State) : Result := immClass (Cpu.adc s.params.decimalMode) v s

/-- ADC, zero page (40 R136) (R184). -/
def execAdcZp (b : Byte) (s : State) : Result := readClass (Cpu.adc s.params.decimalMode) (.zp b) s

/-- ADC, zero page,X (40 R137) (R184). -/
def execAdcZpx (b : Byte) (s : State) : Result := readClass (Cpu.adc s.params.decimalMode) (.zpx b) s

/-- ADC, absolute (40 R138) (R184). -/
def execAdcAbs (w : Word) (s : State) : Result := readClass (Cpu.adc s.params.decimalMode) (.abs w) s

/-- ADC, absolute,X (40 R139) (R184). -/
def execAdcAbsx (w : Word) (s : State) : Result := readClass (Cpu.adc s.params.decimalMode) (.absx w) s

/-- ADC, absolute,Y (40 R139) (R184). -/
def execAdcAbsy (w : Word) (s : State) : Result := readClass (Cpu.adc s.params.decimalMode) (.absy w) s

/-- ADC, (zero page,X) (40 R140) (R184). -/
def execAdcIndx (b : Byte) (s : State) : Result := readClass (Cpu.adc s.params.decimalMode) (.indx b) s

/-- ADC, (zero page),Y (40 R141) (R184). -/
def execAdcIndy (b : Byte) (s : State) : Result := readClass (Cpu.adc s.params.decimalMode) (.indy b) s

/-- SBC, immediate (40 R135) (R185). -/
def execSbcImm (v : Byte) (s : State) : Result := immClass (Cpu.sbc s.params.decimalMode) v s

/-- SBC, zero page (40 R136) (R185). -/
def execSbcZp (b : Byte) (s : State) : Result := readClass (Cpu.sbc s.params.decimalMode) (.zp b) s

/-- SBC, zero page,X (40 R137) (R185). -/
def execSbcZpx (b : Byte) (s : State) : Result := readClass (Cpu.sbc s.params.decimalMode) (.zpx b) s

/-- SBC, absolute (40 R138) (R185). -/
def execSbcAbs (w : Word) (s : State) : Result := readClass (Cpu.sbc s.params.decimalMode) (.abs w) s

/-- SBC, absolute,X (40 R139) (R185). -/
def execSbcAbsx (w : Word) (s : State) : Result := readClass (Cpu.sbc s.params.decimalMode) (.absx w) s

/-- SBC, absolute,Y (40 R139) (R185). -/
def execSbcAbsy (w : Word) (s : State) : Result := readClass (Cpu.sbc s.params.decimalMode) (.absy w) s

/-- SBC, (zero page,X) (40 R140) (R185). -/
def execSbcIndx (b : Byte) (s : State) : Result := readClass (Cpu.sbc s.params.decimalMode) (.indx b) s

/-- SBC, (zero page),Y (40 R141) (R185). -/
def execSbcIndy (b : Byte) (s : State) : Result := readClass (Cpu.sbc s.params.decimalMode) (.indy b) s

end Sys2Proof.Machine
end

