-- ==== Sys2Proof/Machine/Branch.lean ====
section
/-! DEFINITION. The eight conditional branches (43_control_transfer.md R240 to R248). -/

namespace Sys2Proof.Machine

/-- A conditional branch, after its two bytes are fetched (43_control_transfer.md R240): PC is `next`; a taken branch
makes one dummy read, and a second one when the target lies in another page. -/
def branchIf (taken : Bool) (offset : Byte) (s : State) : Result :=
  let next := s.cpu.pc
  let target := next + signExtendByte offset
  if taken then
    let s1 := dummyRead next s
    let s2 := if hiByte target == hiByte next then s1 else dummyRead (mkWord (hiByte next) (loByte target)) s1
    .next (s2.setPc target)
  else .next s

/-- BPL (R241). -/
def execBpl (offset : Byte) (s : State) : Result := branchIf (!s.cpu.p.n) offset s

/-- BMI (R242). -/
def execBmi (offset : Byte) (s : State) : Result := branchIf s.cpu.p.n offset s

/-- BVC (R243). -/
def execBvc (offset : Byte) (s : State) : Result := branchIf (!s.cpu.p.v) offset s

/-- BVS (R244). -/
def execBvs (offset : Byte) (s : State) : Result := branchIf s.cpu.p.v offset s

/-- BCC (R245). -/
def execBcc (offset : Byte) (s : State) : Result := branchIf (!s.cpu.p.c) offset s

/-- BCS (R246). -/
def execBcs (offset : Byte) (s : State) : Result := branchIf s.cpu.p.c offset s

/-- BNE (R247). -/
def execBne (offset : Byte) (s : State) : Result := branchIf (!s.cpu.p.z) offset s

/-- BEQ (R248). -/
def execBeq (offset : Byte) (s : State) : Result := branchIf s.cpu.p.z offset s

end Sys2Proof.Machine
end

