-- ==== Sys2Proof/Machine/Compare.lean ====
section
/-! DEFINITION. CMP, CPX and CPY (41_arith_logic.md R189 to R191). -/

namespace Sys2Proof.Machine

/-- The operation of CMP (R189). -/
def Cpu.cmp (m : Byte) (c : Cpu) : Cpu := { c with p := c.p.compare c.a m }

/-- The operation of CPX (R190). -/
def Cpu.cpx (m : Byte) (c : Cpu) : Cpu := { c with p := c.p.compare c.x m }

/-- The operation of CPY (R191). -/
def Cpu.cpy (m : Byte) (c : Cpu) : Cpu := { c with p := c.p.compare c.y m }

/-- CMP, immediate (40 R135) (R189). -/
def execCmpImm (v : Byte) (s : State) : Result := immClass Cpu.cmp v s

/-- CMP, zero page (40 R136) (R189). -/
def execCmpZp (b : Byte) (s : State) : Result := readClass Cpu.cmp (.zp b) s

/-- CMP, zero page,X (40 R137) (R189). -/
def execCmpZpx (b : Byte) (s : State) : Result := readClass Cpu.cmp (.zpx b) s

/-- CMP, absolute (40 R138) (R189). -/
def execCmpAbs (w : Word) (s : State) : Result := readClass Cpu.cmp (.abs w) s

/-- CMP, absolute,X (40 R139) (R189). -/
def execCmpAbsx (w : Word) (s : State) : Result := readClass Cpu.cmp (.absx w) s

/-- CMP, absolute,Y (40 R139) (R189). -/
def execCmpAbsy (w : Word) (s : State) : Result := readClass Cpu.cmp (.absy w) s

/-- CMP, (zero page,X) (40 R140) (R189). -/
def execCmpIndx (b : Byte) (s : State) : Result := readClass Cpu.cmp (.indx b) s

/-- CMP, (zero page),Y (40 R141) (R189). -/
def execCmpIndy (b : Byte) (s : State) : Result := readClass Cpu.cmp (.indy b) s

/-- CPX, immediate (40 R135) (R190). -/
def execCpxImm (v : Byte) (s : State) : Result := immClass Cpu.cpx v s

/-- CPX, zero page (40 R136) (R190). -/
def execCpxZp (b : Byte) (s : State) : Result := readClass Cpu.cpx (.zp b) s

/-- CPX, absolute (40 R138) (R190). -/
def execCpxAbs (w : Word) (s : State) : Result := readClass Cpu.cpx (.abs w) s

/-- CPY, immediate (40 R135) (R191). -/
def execCpyImm (v : Byte) (s : State) : Result := immClass Cpu.cpy v s

/-- CPY, zero page (40 R136) (R191). -/
def execCpyZp (b : Byte) (s : State) : Result := readClass Cpu.cpy (.zp b) s

/-- CPY, absolute (40 R138) (R191). -/
def execCpyAbs (w : Word) (s : State) : Result := readClass Cpu.cpy (.abs w) s

end Sys2Proof.Machine
end

