-- ==== Sys2Proof/Machine/FlagOps.lean ====
section
/-! DEFINITION. The flag instructions and NOP (44_stack_flags_system.md R274 to R281). -/

namespace Sys2Proof.Machine

/-- The operation of CLC (R274). -/
def Cpu.clc (c : Cpu) : Cpu := { c with p := { c.p with c := false } }

/-- The operation of SEC (R275). -/
def Cpu.sec (c : Cpu) : Cpu := { c with p := { c.p with c := true } }

/-- The operation of CLI (R276). -/
def Cpu.cli (c : Cpu) : Cpu := { c with p := { c.p with i := false } }

/-- The operation of SEI (R277). -/
def Cpu.sei (c : Cpu) : Cpu := { c with p := { c.p with i := true } }

/-- The operation of CLD (R278). -/
def Cpu.cld (c : Cpu) : Cpu := { c with p := { c.p with d := false } }

/-- The operation of SED (R279). -/
def Cpu.sed (c : Cpu) : Cpu := { c with p := { c.p with d := true } }

/-- The operation of CLV (R280). -/
def Cpu.clv (c : Cpu) : Cpu := { c with p := { c.p with v := false } }

/-- The operation of NOP: none (R281). -/
def Cpu.nop (c : Cpu) : Cpu := c

/-- CLC (R274). -/
def execClc (s : State) : Result := impliedClass Cpu.clc s

/-- SEC (R275). -/
def execSec (s : State) : Result := impliedClass Cpu.sec s

/-- CLI (R276). -/
def execCli (s : State) : Result := impliedClass Cpu.cli s

/-- SEI (R277). -/
def execSei (s : State) : Result := impliedClass Cpu.sei s

/-- CLD (R278). -/
def execCld (s : State) : Result := impliedClass Cpu.cld s

/-- SED (R279). -/
def execSed (s : State) : Result := impliedClass Cpu.sed s

/-- CLV (R280). -/
def execClv (s : State) : Result := impliedClass Cpu.clv s

/-- NOP (R281). -/
def execNop (s : State) : Result := impliedClass Cpu.nop s

end Sys2Proof.Machine
end

