-- ==== Sys2Proof/Machine/IncDec.lean ====
section
/-! DEFINITION. INC, DEC, INX, INY, DEX and DEY (42_shift_incdec.md R224 to R229). -/

namespace Sys2Proof.Machine

/-- The operation of INX (R226). -/
def Cpu.inx (c : Cpu) : Cpu := { c with x := (incByte c.p c.x).1, p := (incByte c.p c.x).2 }

/-- The operation of INY (R227). -/
def Cpu.iny (c : Cpu) : Cpu := { c with y := (incByte c.p c.y).1, p := (incByte c.p c.y).2 }

/-- The operation of DEX (R228). -/
def Cpu.dex (c : Cpu) : Cpu := { c with x := (decByte c.p c.x).1, p := (decByte c.p c.x).2 }

/-- The operation of DEY (R229). -/
def Cpu.dey (c : Cpu) : Cpu := { c with y := (decByte c.p c.y).1, p := (decByte c.p c.y).2 }

/-- INC, zero page (40 R136) (R224). -/
def execIncZp (b : Byte) (s : State) : Result := rmwClass incByte (.zp b) s

/-- INC, zero page,X (40 R137) (R224). -/
def execIncZpx (b : Byte) (s : State) : Result := rmwClass incByte (.zpx b) s

/-- INC, absolute (40 R138) (R224). -/
def execIncAbs (w : Word) (s : State) : Result := rmwClass incByte (.abs w) s

/-- INC, absolute,X (40 R139) (R224). -/
def execIncAbsx (w : Word) (s : State) : Result := rmwClass incByte (.absx w) s

/-- DEC, zero page (40 R136) (R225). -/
def execDecZp (b : Byte) (s : State) : Result := rmwClass decByte (.zp b) s

/-- DEC, zero page,X (40 R137) (R225). -/
def execDecZpx (b : Byte) (s : State) : Result := rmwClass decByte (.zpx b) s

/-- DEC, absolute (40 R138) (R225). -/
def execDecAbs (w : Word) (s : State) : Result := rmwClass decByte (.abs w) s

/-- DEC, absolute,X (40 R139) (R225). -/
def execDecAbsx (w : Word) (s : State) : Result := rmwClass decByte (.absx w) s

/-- INX (R226). -/
def execInx (s : State) : Result := impliedClass Cpu.inx s

/-- INY (R227). -/
def execIny (s : State) : Result := impliedClass Cpu.iny s

/-- DEX (R228). -/
def execDex (s : State) : Result := impliedClass Cpu.dex s

/-- DEY (R229). -/
def execDey (s : State) : Result := impliedClass Cpu.dey s

end Sys2Proof.Machine
end

