-- ==== Sys2Proof/Machine/Jump.lean ====
section
/-! DEFINITION. JMP, JSR and RTS (43_control_transfer.md R249 to R251). -/

namespace Sys2Proof.Machine

/-- JMP, absolute (R249): its three cycles are the fetches. -/
def execJmpAbs (w : Word) (s : State) : Result := .next (s.setPc w)

/-- JMP, absolute indirect (R249): the pointer's high byte is read from the same page as its low byte. -/
def execJmpInd (w : Word) (s : State) : Result :=
  let lo := readCycle w s
  let hi := readCycle (unfixed w 1) lo.2
  .next (hi.2.setPc (mkWord hi.1 lo.1))

/-- Cycles 3 to 5 of JSR (R250): the dummy read of the stack, then the two pushes of PC, which is the address of
JSR's last byte. -/
def jsrPushes (s : State) : State := pushPc (dummyRead (stackAddr s.cpu.s) s)

/-- The operand high byte of JSR as cycle 6 reads it, after the pushes (R250, log 16). -/
def jsrHighByte (s : State) : Byte := (readCycle (jsrPushes s).cpu.pc (jsrPushes s)).1

/-- JSR (R250), from the state in which its opcode and operand low byte have been fetched: the pushes, then the fetch
of the operand high byte, whose value stands in `w` (log 16). -/
def execJsr (w : Word) (s : State) : Result :=
  .next ((dummyRead (jsrPushes s).cpu.pc (jsrPushes s)).setPc w)

/-- RTS (R251). -/
def execRts (s : State) : Result :=
  let lo := pullThenUp (prePullCycle (dummyRead s.cpu.pc s))
  let hi := stackReadCycle lo.2
  let ret := mkWord hi.1 lo.1
  .next ((dummyRead ret hi.2).setPc (ret + 1))

end Sys2Proof.Machine
end

