-- ==== Sys2Proof/Machine/Load.lean ====
section
/-! DEFINITION. LDA, LDX and LDY (40_load_store.md R150 to R152). -/

namespace Sys2Proof.Machine

/-- The operation of LDA (R150). -/
def Cpu.lda (m : Byte) (c : Cpu) : Cpu := { c with a := m, p := c.p.nz m }

/-- The operation of LDX (R151). -/
def Cpu.ldx (m : Byte) (c : Cpu) : Cpu := { c with x := m, p := c.p.nz m }

/-- The operation of LDY (R152). -/
def Cpu.ldy (m : Byte) (c : Cpu) : Cpu := { c with y := m, p := c.p.nz m }

/-- LDA, immediate (40 R135) (R150). -/
def execLdaImm (v : Byte) (s : State) : Result := immClass Cpu.lda v s

/-- LDA, zero page (40 R136) (R150). -/
def execLdaZp (b : Byte) (s : State) : Result := readClass Cpu.lda (.zp b) s

/-- LDA, zero page,X (40 R137) (R150). -/
def execLdaZpx (b : Byte) (s : State) : Result := readClass Cpu.lda (.zpx b) s

/-- LDA, absolute (40 R138) (R150). -/
def execLdaAbs (w : Word) (s : State) : Result := readClass Cpu.lda (.abs w) s

/-- LDA, absolute,X (40 R139) (R150). -/
def execLdaAbsx (w : Word) (s : State) : Result := readClass Cpu.lda (.absx w) s

/-- LDA, absolute,Y (40 R139) (R150). -/
def execLdaAbsy (w : Word) (s : State) : Result := readClass Cpu.lda (.absy w) s

/-- LDA, (zero page,X) (40 R140) (R150). -/
def execLdaIndx (b : Byte) (s : State) : Result := readClass Cpu.lda (.indx b) s

/-- LDA, (zero page),Y (40 R141) (R150). -/
def execLdaIndy (b : Byte) (s : State) : Result := readClass Cpu.lda (.indy b) s

/-- LDX, immediate (40 R135) (R151). -/
def execLdxImm (v : Byte) (s : State) : Result := immClass Cpu.ldx v s

/-- LDX, zero page (40 R136) (R151). -/
def execLdxZp (b : Byte) (s : State) : Result := readClass Cpu.ldx (.zp b) s

/-- LDX, zero page,Y (40 R137) (R151). -/
def execLdxZpy (b : Byte) (s : State) : Result := readClass Cpu.ldx (.zpy b) s

/-- LDX, absolute (40 R138) (R151). -/
def execLdxAbs (w : Word) (s : State) : Result := readClass Cpu.ldx (.abs w) s

/-- LDX, absolute,Y (40 R139) (R151). -/
def execLdxAbsy (w : Word) (s : State) : Result := readClass Cpu.ldx (.absy w) s

/-- LDY, immediate (40 R135) (R152). -/
def execLdyImm (v : Byte) (s : State) : Result := immClass Cpu.ldy v s

/-- LDY, zero page (40 R136) (R152). -/
def execLdyZp (b : Byte) (s : State) : Result := readClass Cpu.ldy (.zp b) s

/-- LDY, zero page,X (40 R137) (R152). -/
def execLdyZpx (b : Byte) (s : State) : Result := readClass Cpu.ldy (.zpx b) s

/-- LDY, absolute (40 R138) (R152). -/
def execLdyAbs (w : Word) (s : State) : Result := readClass Cpu.ldy (.abs w) s

/-- LDY, absolute,X (40 R139) (R152). -/
def execLdyAbsx (w : Word) (s : State) : Result := readClass Cpu.ldy (.absx w) s

end Sys2Proof.Machine
end

