-- ==== Sys2Proof/Machine/Logic.lean ====
section
/-! DEFINITION. AND, ORA, EOR and BIT (41_arith_logic.md R186 to R188, R192). -/

namespace Sys2Proof.Machine

/-- The operation of AND (R186). -/
def Cpu.and (m : Byte) (c : Cpu) : Cpu := { c with a := c.a &&& m, p := c.p.nz (c.a &&& m) }

/-- The operation of ORA (R187). -/
def Cpu.ora (m : Byte) (c : Cpu) : Cpu := { c with a := c.a ||| m, p := c.p.nz (c.a ||| m) }

/-- The operation of EOR (R188). -/
def Cpu.eor (m : Byte) (c : Cpu) : Cpu := { c with a := c.a ^^^ m, p := c.p.nz (c.a ^^^ m) }

/-- The operation of BIT (R192). -/
def Cpu.bit (m : Byte) (c : Cpu) : Cpu := { c with p := c.p.bitTest c.a m }

/-- AND, immediate (40 R135) (R186). -/
def execAndImm (v : Byte) (s : State) : Result := immClass Cpu.and v s

/-- AND, zero page (40 R136) (R186). -/
def execAndZp (b : Byte) (s : State) : Result := readClass Cpu.and (.zp b) s

/-- AND, zero page,X (40 R137) (R186). -/
def execAndZpx (b : Byte) (s : State) : Result := readClass Cpu.and (.zpx b) s

/-- AND, absolute (40 R138) (R186). -/
def execAndAbs (w : Word) (s : State) : Result := readClass Cpu.and (.abs w) s

/-- AND, absolute,X (40 R139) (R186). -/
def execAndAbsx (w : Word) (s : State) : Result := readClass Cpu.and (.absx w) s

/-- AND, absolute,Y (40 R139) (R186). -/
def execAndAbsy (w : Word) (s : State) : Result := readClass Cpu.and (.absy w) s

/-- AND, (zero page,X) (40 R140) (R186). -/
def execAndIndx (b : Byte) (s : State) : Result := readClass Cpu.and (.indx b) s

/-- AND, (zero page),Y (40 R141) (R186). -/
def execAndIndy (b : Byte) (s : State) : Result := readClass Cpu.and (.indy b) s

/-- ORA, immediate (40 R135) (R187). -/
def execOraImm (v : Byte) (s : State) : Result := immClass Cpu.ora v s

/-- ORA, zero page (40 R136) (R187). -/
def execOraZp (b : Byte) (s : State) : Result := readClass Cpu.ora (.zp b) s

/-- ORA, zero page,X (40 R137) (R187). -/
def execOraZpx (b : Byte) (s : State) : Result := readClass Cpu.ora (.zpx b) s

/-- ORA, absolute (40 R138) (R187). -/
def execOraAbs (w : Word) (s : State) : Result := readClass Cpu.ora (.abs w) s

/-- ORA, absolute,X (40 R139) (R187). -/
def execOraAbsx (w : Word) (s : State) : Result := readClass Cpu.ora (.absx w) s

/-- ORA, absolute,Y (40 R139) (R187). -/
def execOraAbsy (w : Word) (s : State) : Result := readClass Cpu.ora (.absy w) s

/-- ORA, (zero page,X) (40 R140) (R187). -/
def execOraIndx (b : Byte) (s : State) : Result := readClass Cpu.ora (.indx b) s

/-- ORA, (zero page),Y (40 R141) (R187). -/
def execOraIndy (b : Byte) (s : State) : Result := readClass Cpu.ora (.indy b) s

/-- EOR, immediate (40 R135) (R188). -/
def execEorImm (v : Byte) (s : State) : Result := immClass Cpu.eor v s

/-- EOR, zero page (40 R136) (R188). -/
def execEorZp (b : Byte) (s : State) : Result := readClass Cpu.eor (.zp b) s

/-- EOR, zero page,X (40 R137) (R188). -/
def execEorZpx (b : Byte) (s : State) : Result := readClass Cpu.eor (.zpx b) s

/-- EOR, absolute (40 R138) (R188). -/
def execEorAbs (w : Word) (s : State) : Result := readClass Cpu.eor (.abs w) s

/-- EOR, absolute,X (40 R139) (R188). -/
def execEorAbsx (w : Word) (s : State) : Result := readClass Cpu.eor (.absx w) s

/-- EOR, absolute,Y (40 R139) (R188). -/
def execEorAbsy (w : Word) (s : State) : Result := readClass Cpu.eor (.absy w) s

/-- EOR, (zero page,X) (40 R140) (R188). -/
def execEorIndx (b : Byte) (s : State) : Result := readClass Cpu.eor (.indx b) s

/-- EOR, (zero page),Y (40 R141) (R188). -/
def execEorIndy (b : Byte) (s : State) : Result := readClass Cpu.eor (.indy b) s

/-- BIT, zero page (40 R136) (R192). -/
def execBitZp (b : Byte) (s : State) : Result := readClass Cpu.bit (.zp b) s

/-- BIT, absolute (40 R138) (R192). -/
def execBitAbs (w : Word) (s : State) : Result := readClass Cpu.bit (.abs w) s

end Sys2Proof.Machine
end

