-- ==== Sys2Proof/Machine/Shift.lean ====
section
/-! DEFINITION. ASL, LSR, ROL and ROR (42_shift_incdec.md R220 to R223). -/

namespace Sys2Proof.Machine

/-- ASL, accumulator (40 R134) (R220). -/
def execAslAcc (s : State) : Result := accClass aslByte s

/-- ASL, zero page (40 R136) (R220). -/
def execAslZp (b : Byte) (s : State) : Result := rmwClass aslByte (.zp b) s

/-- ASL, zero page,X (40 R137) (R220). -/
def execAslZpx (b : Byte) (s : State) : Result := rmwClass aslByte (.zpx b) s

/-- ASL, absolute (40 R138) (R220). -/
def execAslAbs (w : Word) (s : State) : Result := rmwClass aslByte (.abs w) s

/-- ASL, absolute,X (40 R139) (R220). -/
def execAslAbsx (w : Word) (s : State) : Result := rmwClass aslByte (.absx w) s

/-- LSR, accumulator (40 R134) (R221). -/
def execLsrAcc (s : State) : Result := accClass lsrByte s

/-- LSR, zero page (40 R136) (R221). -/
def execLsrZp (b : Byte) (s : State) : Result := rmwClass lsrByte (.zp b) s

/-- LSR, zero page,X (40 R137) (R221). -/
def execLsrZpx (b : Byte) (s : State) : Result := rmwClass lsrByte (.zpx b) s

/-- LSR, absolute (40 R138) (R221). -/
def execLsrAbs (w : Word) (s : State) : Result := rmwClass lsrByte (.abs w) s

/-- LSR, absolute,X (40 R139) (R221). -/
def execLsrAbsx (w : Word) (s : State) : Result := rmwClass lsrByte (.absx w) s

/-- ROL, accumulator (40 R134) (R222). -/
def execRolAcc (s : State) : Result := accClass rolByte s

/-- ROL, zero page (40 R136) (R222). -/
def execRolZp (b : Byte) (s : State) : Result := rmwClass rolByte (.zp b) s

/-- ROL, zero page,X (40 R137) (R222). -/
def execRolZpx (b : Byte) (s : State) : Result := rmwClass rolByte (.zpx b) s

/-- ROL, absolute (40 R138) (R222). -/
def execRolAbs (w : Word) (s : State) : Result := rmwClass rolByte (.abs w) s

/-- ROL, absolute,X (40 R139) (R222). -/
def execRolAbsx (w : Word) (s : State) : Result := rmwClass rolByte (.absx w) s

/-- ROR, accumulator (40 R134) (R223). -/
def execRorAcc (s : State) : Result := accClass rorByte s

/-- ROR, zero page (40 R136) (R223). -/
def execRorZp (b : Byte) (s : State) : Result := rmwClass rorByte (.zp b) s

/-- ROR, zero page,X (40 R137) (R223). -/
def execRorZpx (b : Byte) (s : State) : Result := rmwClass rorByte (.zpx b) s

/-- ROR, absolute (40 R138) (R223). -/
def execRorAbs (w : Word) (s : State) : Result := rmwClass rorByte (.abs w) s

/-- ROR, absolute,X (40 R139) (R223). -/
def execRorAbsx (w : Word) (s : State) : Result := rmwClass rorByte (.absx w) s

end Sys2Proof.Machine
end

