-- ==== Sys2Proof/Machine/Stack.lean ====
section
/-! DEFINITION. PHA, PHP, PLA and PLP (44_stack_flags_system.md R270 to R273). -/

namespace Sys2Proof.Machine

/-- PHA (R270). -/
def execPha (s : State) : Result := .next (pushCycle s.cpu.a (dummyRead s.cpu.pc s))

/-- PHP (R271): the pushed byte has bits 5 and 4 set. -/
def execPhp (s : State) : Result := .next (pushCycle (s.cpu.p.pack true) (dummyRead s.cpu.pc s))

/-- The byte a pull instruction reads, after its dummy reads and S + 1 (R272). -/
def pullByte (s : State) : Byte × State := stackReadCycle (prePullCycle (dummyRead s.cpu.pc s))

/-- PLA (R272). -/
def execPla (s : State) : Result :=
  let r := pullByte s
  .next (r.2.mapCpu fun c => { c with a := r.1, p := c.p.nz r.1 })

/-- PLP (R273). -/
def execPlp (s : State) : Result :=
  let r := pullByte s
  .next (r.2.mapCpu fun c => { c with p := Flags.unpack r.1 })

end Sys2Proof.Machine
end

