-- ==== Sys2Proof/Machine/Store.lean ====
section
/-! DEFINITION. STA, STX and STY (40_load_store.md R153 to R155). -/

namespace Sys2Proof.Machine

/-- STA, zero page (40 R136) (R153). -/
def execStaZp (b : Byte) (s : State) : Result := writeClass Cpu.a (.zp b) s

/-- STA, zero page,X (40 R137) (R153). -/
def execStaZpx (b : Byte) (s : State) : Result := writeClass Cpu.a (.zpx b) s

/-- STA, absolute (40 R138) (R153). -/
def execStaAbs (w : Word) (s : State) : Result := writeClass Cpu.a (.abs w) s

/-- STA, absolute,X (40 R139) (R153). -/
def execStaAbsx (w : Word) (s : State) : Result := writeClass Cpu.a (.absx w) s

/-- STA, absolute,Y (40 R139) (R153). -/
def execStaAbsy (w : Word) (s : State) : Result := writeClass Cpu.a (.absy w) s

/-- STA, (zero page,X) (40 R140) (R153). -/
def execStaIndx (b : Byte) (s : State) : Result := writeClass Cpu.a (.indx b) s

/-- STA, (zero page),Y (40 R141) (R153). -/
def execStaIndy (b : Byte) (s : State) : Result := writeClass Cpu.a (.indy b) s

/-- STX, zero page (40 R136) (R154). -/
def execStxZp (b : Byte) (s : State) : Result := writeClass Cpu.x (.zp b) s

/-- STX, zero page,Y (40 R137) (R154). -/
def execStxZpy (b : Byte) (s : State) : Result := writeClass Cpu.x (.zpy b) s

/-- STX, absolute (40 R138) (R154). -/
def execStxAbs (w : Word) (s : State) : Result := writeClass Cpu.x (.abs w) s

/-- STY, zero page (40 R136) (R155). -/
def execStyZp (b : Byte) (s : State) : Result := writeClass Cpu.y (.zp b) s

/-- STY, zero page,X (40 R137) (R155). -/
def execStyZpx (b : Byte) (s : State) : Result := writeClass Cpu.y (.zpx b) s

/-- STY, absolute (40 R138) (R155). -/
def execStyAbs (w : Word) (s : State) : Result := writeClass Cpu.y (.abs w) s

end Sys2Proof.Machine
end

