-- ==== Sys2Proof/Machine/Transfer.lean ====
section
/-! DEFINITION. The register transfers (40_load_store.md R156 to R161). -/

namespace Sys2Proof.Machine

/-- The operation of TAX (R156). -/
def Cpu.tax (c : Cpu) : Cpu := { c with x := c.a, p := c.p.nz c.a }

/-- The operation of TAY (R157). -/
def Cpu.tay (c : Cpu) : Cpu := { c with y := c.a, p := c.p.nz c.a }

/-- The operation of TXA (R158). -/
def Cpu.txa (c : Cpu) : Cpu := { c with a := c.x, p := c.p.nz c.x }

/-- The operation of TYA (R159). -/
def Cpu.tya (c : Cpu) : Cpu := { c with a := c.y, p := c.p.nz c.y }

/-- The operation of TSX (R160). -/
def Cpu.tsx (c : Cpu) : Cpu := { c with x := c.s, p := c.p.nz c.s }

/-- The operation of TXS, which writes no flag (R161). -/
def Cpu.txs (c : Cpu) : Cpu := { c with s := c.x }

/-- TAX (R156). -/
def execTax (s : State) : Result := impliedClass Cpu.tax s

/-- TAY (R157). -/
def execTay (s : State) : Result := impliedClass Cpu.tay s

/-- TXA (R158). -/
def execTxa (s : State) : Result := impliedClass Cpu.txa s

/-- TYA (R159). -/
def execTya (s : State) : Result := impliedClass Cpu.tya s

/-- TSX (R160). -/
def execTsx (s : State) : Result := impliedClass Cpu.tsx s

/-- TXS (R161). -/
def execTxs (s : State) : Result := impliedClass Cpu.txs s

end Sys2Proof.Machine
end

