-- ==== Sys2Proof/Machine/Trap.lean ====
section
/-! DEFINITION. BRK and RTI (43_control_transfer.md R255, R256) and the undocumented bytes (30_encoding.md R110,
60_exceptions.md R300). -/

namespace Sys2Proof.Machine

/-- BRK (R255), from the state in which its opcode and padding byte have been fetched; the padding byte has no meaning. -/
def execBrk (_padding : Byte) (s : State) : Result := .next (takeTrap s)

/-- RTI (R256). -/
def execRti (s : State) : Result := .next (returnFromTrap s)

/-- An undocumented opcode byte (R300), from the state after its fetch cycle: the fault UnimplementedOpcode. -/
def execUnimpl (opcode : Byte) (s : State) : Result := raiseUnimplemented opcode s

end Sys2Proof.Machine
end

