-- ==== Sys2Proof/Syntax.lean ====
section
/-! DEFINITION. The instructions: one constructor per row of spec/opcode_table.json, with the row's operand
bytes as its arguments (30_encoding.md R100, R105); the 105 UNIMPL rows, which differ in nothing but their
opcode byte, are the constructor `unimpl` with that byte (log 14). -/

namespace Sys2Proof

/-- An instruction of 30_encoding.md R105, or an undocumented opcode byte of R110. -/
inductive Instr where
  -- Loads and stores (40_load_store.md)
  | ldaImm (value : Byte)
  | ldaZp (addr : Byte)
  | ldaZpx (addr : Byte)
  | ldaAbs (addr : Word)
  | ldaAbsx (addr : Word)
  | ldaAbsy (addr : Word)
  | ldaIndx (addr : Byte)
  | ldaIndy (addr : Byte)
  | ldxImm (value : Byte)
  | ldxZp (addr : Byte)
  | ldxZpy (addr : Byte)
  | ldxAbs (addr : Word)
  | ldxAbsy (addr : Word)
  | ldyImm (value : Byte)
  | ldyZp (addr : Byte)
  | ldyZpx (addr : Byte)
  | ldyAbs (addr : Word)
  | ldyAbsx (addr : Word)
  | staZp (addr : Byte)
  | staZpx (addr : Byte)
  | staAbs (addr : Word)
  | staAbsx (addr : Word)
  | staAbsy (addr : Word)
  | staIndx (addr : Byte)
  | staIndy (addr : Byte)
  | stxZp (addr : Byte)
  | stxZpy (addr : Byte)
  | stxAbs (addr : Word)
  | styZp (addr : Byte)
  | styZpx (addr : Byte)
  | styAbs (addr : Word)
  -- Register transfers (40_load_store.md)
  | tax
  | tay
  | txa
  | tya
  | tsx
  | txs
  -- Arithmetic, logic, compare, bit test (41_arith_logic.md)
  | adcImm (value : Byte)
  | adcZp (addr : Byte)
  | adcZpx (addr : Byte)
  | adcAbs (addr : Word)
  | adcAbsx (addr : Word)
  | adcAbsy (addr : Word)
  | adcIndx (addr : Byte)
  | adcIndy (addr : Byte)
  | sbcImm (value : Byte)
  | sbcZp (addr : Byte)
  | sbcZpx (addr : Byte)
  | sbcAbs (addr : Word)
  | sbcAbsx (addr : Word)
  | sbcAbsy (addr : Word)
  | sbcIndx (addr : Byte)
  | sbcIndy (addr : Byte)
  | andImm (value : Byte)
  | andZp (addr : Byte)
  | andZpx (addr : Byte)
  | andAbs (addr : Word)
  | andAbsx (addr : Word)
  | andAbsy (addr : Word)
  | andIndx (addr : Byte)
  | andIndy (addr : Byte)
  | oraImm (value : Byte)
  | oraZp (addr : Byte)
  | oraZpx (addr : Byte)
  | oraAbs (addr : Word)
  | oraAbsx (addr : Word)
  | oraAbsy (addr : Word)
  | oraIndx (addr : Byte)
  | oraIndy (addr : Byte)
  | eorImm (value : Byte)
  | eorZp (addr : Byte)
  | eorZpx (addr : Byte)
  | eorAbs (addr : Word)
  | eorAbsx (addr : Word)
  | eorAbsy (addr : Word)
  | eorIndx (addr : Byte)
  | eorIndy (addr : Byte)
  | cmpImm (value : Byte)
  | cmpZp (addr : Byte)
  | cmpZpx (addr : Byte)
  | cmpAbs (addr : Word)
  | cmpAbsx (addr : Word)
  | cmpAbsy (addr : Word)
  | cmpIndx (addr : Byte)
  | cmpIndy (addr : Byte)
  | cpxImm (value : Byte)
  | cpxZp (addr : Byte)
  | cpxAbs (addr : Word)
  | cpyImm (value : Byte)
  | cpyZp (addr : Byte)
  | cpyAbs (addr : Word)
  | bitZp (addr : Byte)
  | bitAbs (addr : Word)
  -- Shifts, increments, decrements (42_shift_incdec.md)
  | aslAcc
  | aslZp (addr : Byte)
  | aslZpx (addr : Byte)
  | aslAbs (addr : Word)
  | aslAbsx (addr : Word)
  | lsrAcc
  | lsrZp (addr : Byte)
  | lsrZpx (addr : Byte)
  | lsrAbs (addr : Word)
  | lsrAbsx (addr : Word)
  | rolAcc
  | rolZp (addr : Byte)
  | rolZpx (addr : Byte)
  | rolAbs (addr : Word)
  | rolAbsx (addr : Word)
  | rorAcc
  | rorZp (addr : Byte)
  | rorZpx (addr : Byte)
  | rorAbs (addr : Word)
  | rorAbsx (addr : Word)
  | incZp (addr : Byte)
  | incZpx (addr : Byte)
  | incAbs (addr : Word)
  | incAbsx (addr : Word)
  | decZp (addr : Byte)
  | decZpx (addr : Byte)
  | decAbs (addr : Word)
  | decAbsx (addr : Word)
  | inx
  | iny
  | dex
  | dey
  -- Control transfer (43_control_transfer.md)
  | bpl (offset : Byte)
  | bmi (offset : Byte)
  | bvc (offset : Byte)
  | bvs (offset : Byte)
  | bcc (offset : Byte)
  | bcs (offset : Byte)
  | bne (offset : Byte)
  | beq (offset : Byte)
  | jmpAbs (addr : Word)
  | jmpInd (addr : Word)
  | jsr (target : Word)
  | rts
  | brk (padding : Byte)
  | rti
  -- Stack, flags, system (44_stack_flags_system.md)
  | pha
  | php
  | pla
  | plp
  | clc
  | sec
  | cli
  | sei
  | cld
  | sed
  | clv
  | nop
  -- Undocumented bytes (30_encoding.md R110)
  | unimpl (opcode : Byte)
  deriving DecidableEq, Repr

end Sys2Proof
end

