-- ==== Sys2Proof/Machine/Dispatch.lean ====
section
/-! DEFINITION. One arm per constructor of Instr, each a direct call of its meaning. -/

namespace Sys2Proof.Machine

open Sys2Proof

/-- What an instruction does from the state in which its own bytes have been fetched (log 17). -/
def exec (i : Instr) (s : State) : Host.Outcome State Fault Refusal :=
  match i with
  | .ldaImm b => Sys2Proof.Machine.execLdaImm b s
  | .ldaZp b => Sys2Proof.Machine.execLdaZp b s
  | .ldaZpx b => Sys2Proof.Machine.execLdaZpx b s
  | .ldaAbs w => Sys2Proof.Machine.execLdaAbs w s
  | .ldaAbsx w => Sys2Proof.Machine.execLdaAbsx w s
  | .ldaAbsy w => Sys2Proof.Machine.execLdaAbsy w s
  | .ldaIndx b => Sys2Proof.Machine.execLdaIndx b s
  | .ldaIndy b => Sys2Proof.Machine.execLdaIndy b s
  | .ldxImm b => Sys2Proof.Machine.execLdxImm b s
  | .ldxZp b => Sys2Proof.Machine.execLdxZp b s
  | .ldxZpy b => Sys2Proof.Machine.execLdxZpy b s
  | .ldxAbs w => Sys2Proof.Machine.execLdxAbs w s
  | .ldxAbsy w => Sys2Proof.Machine.execLdxAbsy w s
  | .ldyImm b => Sys2Proof.Machine.execLdyImm b s
  | .ldyZp b => Sys2Proof.Machine.execLdyZp b s
  | .ldyZpx b => Sys2Proof.Machine.execLdyZpx b s
  | .ldyAbs w => Sys2Proof.Machine.execLdyAbs w s
  | .ldyAbsx w => Sys2Proof.Machine.execLdyAbsx w s
  | .staZp b => Sys2Proof.Machine.execStaZp b s
  | .staZpx b => Sys2Proof.Machine.execStaZpx b s
  | .staAbs w => Sys2Proof.Machine.execStaAbs w s
  | .staAbsx w => Sys2Proof.Machine.execStaAbsx w s
  | .staAbsy w => Sys2Proof.Machine.execStaAbsy w s
  | .staIndx b => Sys2Proof.Machine.execStaIndx b s
  | .staIndy b => Sys2Proof.Machine.execStaIndy b s
  | .stxZp b => Sys2Proof.Machine.execStxZp b s
  | .stxZpy b => Sys2Proof.Machine.execStxZpy b s
  | .stxAbs w => Sys2Proof.Machine.execStxAbs w s
  | .styZp b => Sys2Proof.Machine.execStyZp b s
  | .styZpx b => Sys2Proof.Machine.execStyZpx b s
  | .styAbs w => Sys2Proof.Machine.execStyAbs w s
  | .tax => Sys2Proof.Machine.execTax s
  | .tay => Sys2Proof.Machine.execTay s
  | .txa => Sys2Proof.Machine.execTxa s
  | .tya => Sys2Proof.Machine.execTya s
  | .tsx => Sys2Proof.Machine.execTsx s
  | .txs => Sys2Proof.Machine.execTxs s
  | .adcImm b => Sys2Proof.Machine.execAdcImm b s
  | .adcZp b => Sys2Proof.Machine.execAdcZp b s
  | .adcZpx b => Sys2Proof.Machine.execAdcZpx b s
  | .adcAbs w => Sys2Proof.Machine.execAdcAbs w s
  | .adcAbsx w => Sys2Proof.Machine.execAdcAbsx w s
  | .adcAbsy w => Sys2Proof.Machine.execAdcAbsy w s
  | .adcIndx b => Sys2Proof.Machine.execAdcIndx b s
  | .adcIndy b => Sys2Proof.Machine.execAdcIndy b s
  | .sbcImm b => Sys2Proof.Machine.execSbcImm b s
  | .sbcZp b => Sys2Proof.Machine.execSbcZp b s
  | .sbcZpx b => Sys2Proof.Machine.execSbcZpx b s
  | .sbcAbs w => Sys2Proof.Machine.execSbcAbs w s
  | .sbcAbsx w => Sys2Proof.Machine.execSbcAbsx w s
  | .sbcAbsy w => Sys2Proof.Machine.execSbcAbsy w s
  | .sbcIndx b => Sys2Proof.Machine.execSbcIndx b s
  | .sbcIndy b => Sys2Proof.Machine.execSbcIndy b s
  | .andImm b => Sys2Proof.Machine.execAndImm b s
  | .andZp b => Sys2Proof.Machine.execAndZp b s
  | .andZpx b => Sys2Proof.Machine.execAndZpx b s
  | .andAbs w => Sys2Proof.Machine.execAndAbs w s
  | .andAbsx w => Sys2Proof.Machine.execAndAbsx w s
  | .andAbsy w => Sys2Proof.Machine.execAndAbsy w s
  | .andIndx b => Sys2Proof.Machine.execAndIndx b s
  | .andIndy b => Sys2Proof.Machine.execAndIndy b s
  | .oraImm b => Sys2Proof.Machine.execOraImm b s
  | .oraZp b => Sys2Proof.Machine.execOraZp b s
  | .oraZpx b => Sys2Proof.Machine.execOraZpx b s
  | .oraAbs w => Sys2Proof.Machine.execOraAbs w s
  | .oraAbsx w => Sys2Proof.Machine.execOraAbsx w s
  | .oraAbsy w => Sys2Proof.Machine.execOraAbsy w s
  | .oraIndx b => Sys2Proof.Machine.execOraIndx b s
  | .oraIndy b => Sys2Proof.Machine.execOraIndy b s
  | .eorImm b => Sys2Proof.Machine.execEorImm b s
  | .eorZp b => Sys2Proof.Machine.execEorZp b s
  | .eorZpx b => Sys2Proof.Machine.execEorZpx b s
  | .eorAbs w => Sys2Proof.Machine.execEorAbs w s
  | .eorAbsx w => Sys2Proof.Machine.execEorAbsx w s
  | .eorAbsy w => Sys2Proof.Machine.execEorAbsy w s
  | .eorIndx b => Sys2Proof.Machine.execEorIndx b s
  | .eorIndy b => Sys2Proof.Machine.execEorIndy b s
  | .cmpImm b => Sys2Proof.Machine.execCmpImm b s
  | .cmpZp b => Sys2Proof.Machine.execCmpZp b s
  | .cmpZpx b => Sys2Proof.Machine.execCmpZpx b s
  | .cmpAbs w => Sys2Proof.Machine.execCmpAbs w s
  | .cmpAbsx w => Sys2Proof.Machine.execCmpAbsx w s
  | .cmpAbsy w => Sys2Proof.Machine.execCmpAbsy w s
  | .cmpIndx b => Sys2Proof.Machine.execCmpIndx b s
  | .cmpIndy b => Sys2Proof.Machine.execCmpIndy b s
  | .cpxImm b => Sys2Proof.Machine.execCpxImm b s
  | .cpxZp b => Sys2Proof.Machine.execCpxZp b s
  | .cpxAbs w => Sys2Proof.Machine.execCpxAbs w s
  | .cpyImm b => Sys2Proof.Machine.execCpyImm b s
  | .cpyZp b => Sys2Proof.Machine.execCpyZp b s
  | .cpyAbs w => Sys2Proof.Machine.execCpyAbs w s
  | .bitZp b => Sys2Proof.Machine.execBitZp b s
  | .bitAbs w => Sys2Proof.Machine.execBitAbs w s
  | .aslAcc => Sys2Proof.Machine.execAslAcc s
  | .aslZp b => Sys2Proof.Machine.execAslZp b s
  | .aslZpx b => Sys2Proof.Machine.execAslZpx b s
  | .aslAbs w => Sys2Proof.Machine.execAslAbs w s
  | .aslAbsx w => Sys2Proof.Machine.execAslAbsx w s
  | .lsrAcc => Sys2Proof.Machine.execLsrAcc s
  | .lsrZp b => Sys2Proof.Machine.execLsrZp b s
  | .lsrZpx b => Sys2Proof.Machine.execLsrZpx b s
  | .lsrAbs w => Sys2Proof.Machine.execLsrAbs w s
  | .lsrAbsx w => Sys2Proof.Machine.execLsrAbsx w s
  | .rolAcc => Sys2Proof.Machine.execRolAcc s
  | .rolZp b => Sys2Proof.Machine.execRolZp b s
  | .rolZpx b => Sys2Proof.Machine.execRolZpx b s
  | .rolAbs w => Sys2Proof.Machine.execRolAbs w s
  | .rolAbsx w => Sys2Proof.Machine.execRolAbsx w s
  | .rorAcc => Sys2Proof.Machine.execRorAcc s
  | .rorZp b => Sys2Proof.Machine.execRorZp b s
  | .rorZpx b => Sys2Proof.Machine.execRorZpx b s
  | .rorAbs w => Sys2Proof.Machine.execRorAbs w s
  | .rorAbsx w => Sys2Proof.Machine.execRorAbsx w s
  | .incZp b => Sys2Proof.Machine.execIncZp b s
  | .incZpx b => Sys2Proof.Machine.execIncZpx b s
  | .incAbs w => Sys2Proof.Machine.execIncAbs w s
  | .incAbsx w => Sys2Proof.Machine.execIncAbsx w s
  | .decZp b => Sys2Proof.Machine.execDecZp b s
  | .decZpx b => Sys2Proof.Machine.execDecZpx b s
  | .decAbs w => Sys2Proof.Machine.execDecAbs w s
  | .decAbsx w => Sys2Proof.Machine.execDecAbsx w s
  | .inx => Sys2Proof.Machine.execInx s
  | .iny => Sys2Proof.Machine.execIny s
  | .dex => Sys2Proof.Machine.execDex s
  | .dey => Sys2Proof.Machine.execDey s
  | .bpl b => Sys2Proof.Machine.execBpl b s
  | .bmi b => Sys2Proof.Machine.execBmi b s
  | .bvc b => Sys2Proof.Machine.execBvc b s
  | .bvs b => Sys2Proof.Machine.execBvs b s
  | .bcc b => Sys2Proof.Machine.execBcc b s
  | .bcs b => Sys2Proof.Machine.execBcs b s
  | .bne b => Sys2Proof.Machine.execBne b s
  | .beq b => Sys2Proof.Machine.execBeq b s
  | .jmpAbs w => Sys2Proof.Machine.execJmpAbs w s
  | .jmpInd w => Sys2Proof.Machine.execJmpInd w s
  | .jsr w => Sys2Proof.Machine.execJsr w s
  | .rts => Sys2Proof.Machine.execRts s
  | .brk b => Sys2Proof.Machine.execBrk b s
  | .rti => Sys2Proof.Machine.execRti s
  | .pha => Sys2Proof.Machine.execPha s
  | .php => Sys2Proof.Machine.execPhp s
  | .pla => Sys2Proof.Machine.execPla s
  | .plp => Sys2Proof.Machine.execPlp s
  | .clc => Sys2Proof.Machine.execClc s
  | .sec => Sys2Proof.Machine.execSec s
  | .cli => Sys2Proof.Machine.execCli s
  | .sei => Sys2Proof.Machine.execSei s
  | .cld => Sys2Proof.Machine.execCld s
  | .sed => Sys2Proof.Machine.execSed s
  | .clv => Sys2Proof.Machine.execClv s
  | .nop => Sys2Proof.Machine.execNop s
  | .unimpl b => Sys2Proof.Machine.execUnimpl b s

end Sys2Proof.Machine
end

