-- ==== Sys2Proof/Decode.lean ====
section
/-! DEFINITION. The decoder, total on any bytes, and the encoder, both written from 30_encoding.md R100 to R106
and R110. -/

namespace Sys2Proof

open Sys2Proof.Machine (loByte hiByte mkWord)

/-- What an opcode byte leaves to be read (R100, R101): nothing, one byte, or a 16-bit operand, low byte first.
JSR's operand is like any other in the encoding, but its high byte is fetched late (43_control_transfer.md R250). -/
inductive Shape where
  | bare (i : Instr)
  | byte (f : Byte → Instr)
  | word (f : Word → Instr)
  | call (f : Word → Instr)

/-- Opcodes of R105: loads and stores. -/
def loadStoreOpcodes : List (Byte × Shape) :=
  [(0xA9, .byte .ldaImm), (0xA5, .byte .ldaZp), (0xB5, .byte .ldaZpx), (0xAD, .word .ldaAbs),
   (0xBD, .word .ldaAbsx), (0xB9, .word .ldaAbsy), (0xA1, .byte .ldaIndx), (0xB1, .byte .ldaIndy),
   (0xA2, .byte .ldxImm), (0xA6, .byte .ldxZp), (0xB6, .byte .ldxZpy), (0xAE, .word .ldxAbs),
   (0xBE, .word .ldxAbsy), (0xA0, .byte .ldyImm), (0xA4, .byte .ldyZp), (0xB4, .byte .ldyZpx),
   (0xAC, .word .ldyAbs), (0xBC, .word .ldyAbsx), (0x85, .byte .staZp), (0x95, .byte .staZpx),
   (0x8D, .word .staAbs), (0x9D, .word .staAbsx), (0x99, .word .staAbsy), (0x81, .byte .staIndx),
   (0x91, .byte .staIndy), (0x86, .byte .stxZp), (0x96, .byte .stxZpy), (0x8E, .word .stxAbs),
   (0x84, .byte .styZp), (0x94, .byte .styZpx), (0x8C, .word .styAbs)]

/-- Opcodes of R105: register transfers. -/
def transferOpcodes : List (Byte × Shape) :=
  [(0xAA, .bare .tax), (0xA8, .bare .tay), (0x8A, .bare .txa), (0x98, .bare .tya),
   (0xBA, .bare .tsx), (0x9A, .bare .txs)]

/-- Opcodes of R105: arithmetic, logic, compare, bit test. -/
def arithLogicOpcodes : List (Byte × Shape) :=
  [(0x69, .byte .adcImm), (0x65, .byte .adcZp), (0x75, .byte .adcZpx), (0x6D, .word .adcAbs),
   (0x7D, .word .adcAbsx), (0x79, .word .adcAbsy), (0x61, .byte .adcIndx), (0x71, .byte .adcIndy),
   (0xE9, .byte .sbcImm), (0xE5, .byte .sbcZp), (0xF5, .byte .sbcZpx), (0xED, .word .sbcAbs),
   (0xFD, .word .sbcAbsx), (0xF9, .word .sbcAbsy), (0xE1, .byte .sbcIndx), (0xF1, .byte .sbcIndy),
   (0x29, .byte .andImm), (0x25, .byte .andZp), (0x35, .byte .andZpx), (0x2D, .word .andAbs),
   (0x3D, .word .andAbsx), (0x39, .word .andAbsy), (0x21, .byte .andIndx), (0x31, .byte .andIndy),
   (0x09, .byte .oraImm), (0x05, .byte .oraZp), (0x15, .byte .oraZpx), (0x0D, .word .oraAbs),
   (0x1D, .word .oraAbsx), (0x19, .word .oraAbsy), (0x01, .byte .oraIndx), (0x11, .byte .oraIndy),
   (0x49, .byte .eorImm), (0x45, .byte .eorZp), (0x55, .byte .eorZpx), (0x4D, .word .eorAbs),
   (0x5D, .word .eorAbsx), (0x59, .word .eorAbsy), (0x41, .byte .eorIndx), (0x51, .byte .eorIndy),
   (0xC9, .byte .cmpImm), (0xC5, .byte .cmpZp), (0xD5, .byte .cmpZpx), (0xCD, .word .cmpAbs),
   (0xDD, .word .cmpAbsx), (0xD9, .word .cmpAbsy), (0xC1, .byte .cmpIndx), (0xD1, .byte .cmpIndy),
   (0xE0, .byte .cpxImm), (0xE4, .byte .cpxZp), (0xEC, .word .cpxAbs), (0xC0, .byte .cpyImm),
   (0xC4, .byte .cpyZp), (0xCC, .word .cpyAbs), (0x24, .byte .bitZp), (0x2C, .word .bitAbs)]

/-- Opcodes of R105: shifts, increments, decrements. -/
def shiftIncDecOpcodes : List (Byte × Shape) :=
  [(0x0A, .bare .aslAcc), (0x06, .byte .aslZp), (0x16, .byte .aslZpx), (0x0E, .word .aslAbs),
   (0x1E, .word .aslAbsx), (0x4A, .bare .lsrAcc), (0x46, .byte .lsrZp), (0x56, .byte .lsrZpx),
   (0x4E, .word .lsrAbs), (0x5E, .word .lsrAbsx), (0x2A, .bare .rolAcc), (0x26, .byte .rolZp),
   (0x36, .byte .rolZpx), (0x2E, .word .rolAbs), (0x3E, .word .rolAbsx), (0x6A, .bare .rorAcc),
   (0x66, .byte .rorZp), (0x76, .byte .rorZpx), (0x6E, .word .rorAbs), (0x7E, .word .rorAbsx),
   (0xE6, .byte .incZp), (0xF6, .byte .incZpx), (0xEE, .word .incAbs), (0xFE, .word .incAbsx),
   (0xC6, .byte .decZp), (0xD6, .byte .decZpx), (0xCE, .word .decAbs), (0xDE, .word .decAbsx),
   (0xE8, .bare .inx), (0xC8, .bare .iny), (0xCA, .bare .dex), (0x88, .bare .dey)]

/-- Opcodes of R105: control transfer. -/
def controlOpcodes : List (Byte × Shape) :=
  [(0x10, .byte .bpl), (0x30, .byte .bmi), (0x50, .byte .bvc), (0x70, .byte .bvs),
   (0x90, .byte .bcc), (0xB0, .byte .bcs), (0xD0, .byte .bne), (0xF0, .byte .beq),
   (0x4C, .word .jmpAbs), (0x6C, .word .jmpInd), (0x20, .call .jsr), (0x60, .bare .rts),
   (0x00, .byte .brk), (0x40, .bare .rti)]

/-- Opcodes of R105: stack, flags, system. -/
def stackFlagOpcodes : List (Byte × Shape) :=
  [(0x48, .bare .pha), (0x08, .bare .php), (0x68, .bare .pla), (0x28, .bare .plp),
   (0x18, .bare .clc), (0x38, .bare .sec), (0x58, .bare .cli), (0x78, .bare .sei),
   (0xD8, .bare .cld), (0xF8, .bare .sed), (0xB8, .bare .clv), (0xEA, .bare .nop)]

/-- The 151 documented opcodes (R104, R105). -/
def opcodeTable : List (Byte × Shape) :=
  loadStoreOpcodes ++ transferOpcodes ++ arithLogicOpcodes ++ shiftIncDecOpcodes ++ controlOpcodes ++ stackFlagOpcodes

/-- The shape a table lists for an opcode. -/
def lookupShape : List (Byte × Shape) → Byte → Option Shape
  | [], _ => none
  | r :: t, op => if op == r.1 then some r.2 else lookupShape t op

/-- The shape of every opcode byte (R106): a byte R104 does not list is undocumented (R110). -/
def shapeOf (op : Byte) : Shape :=
  match lookupShape opcodeTable op with
  | some sh => sh
  | none => .bare (.unimpl op)

/-- What the decoder answers: the instruction and the bytes after it, or why there is none. -/
inductive Decoded where
  | ok (i : Instr) (rest : List Byte)
  /-- There is no byte. -/
  | empty
  /-- The bytes end inside the instruction. -/
  | truncated (opcode : Byte)
  deriving DecidableEq, Repr

/-- The decoder (R100 to R102, R106). -/
def decode : List Byte → Decoded
  | [] => .empty
  | op :: rest =>
    match shapeOf op with
    | .bare i => .ok i rest
    | .byte f =>
      match rest with
      | b :: rest => .ok (f b) rest
      | [] => .truncated op
    | .word f | .call f =>
      match rest with
      | low :: high :: rest => .ok (f (mkWord high low)) rest
      | _ => .truncated op

/-- The instruction decoded, if there is one. -/
def Decoded.instr? : Decoded → Option Instr
  | .ok i _ => some i
  | .empty => none
  | .truncated _ => none

/-- Instruction length by the opcode byte alone (R101). -/
def instrLength (op : Byte) : Nat :=
  match shapeOf op with
  | .bare _ => 1
  | .byte _ => 2
  | .word _ => 3
  | .call _ => 3

/-- An opcode with a 16-bit operand, low byte first (R102, 20_memory.md R67). -/
def encodeWord (op : Byte) (w : Word) : List Byte := [op, loByte w, hiByte w]

/-- The encoder (R100, R105): the bytes of an instruction, opcode first. -/
def encode : Instr → List Byte
  | .ldaImm b => [0xA9, b]
  | .ldaZp b => [0xA5, b]
  | .ldaZpx b => [0xB5, b]
  | .ldaAbs w => encodeWord 0xAD w
  | .ldaAbsx w => encodeWord 0xBD w
  | .ldaAbsy w => encodeWord 0xB9 w
  | .ldaIndx b => [0xA1, b]
  | .ldaIndy b => [0xB1, b]
  | .ldxImm b => [0xA2, b]
  | .ldxZp b => [0xA6, b]
  | .ldxZpy b => [0xB6, b]
  | .ldxAbs w => encodeWord 0xAE w
  | .ldxAbsy w => encodeWord 0xBE w
  | .ldyImm b => [0xA0, b]
  | .ldyZp b => [0xA4, b]
  | .ldyZpx b => [0xB4, b]
  | .ldyAbs w => encodeWord 0xAC w
  | .ldyAbsx w => encodeWord 0xBC w
  | .staZp b => [0x85, b]
  | .staZpx b => [0x95, b]
  | .staAbs w => encodeWord 0x8D w
  | .staAbsx w => encodeWord 0x9D w
  | .staAbsy w => encodeWord 0x99 w
  | .staIndx b => [0x81, b]
  | .staIndy b => [0x91, b]
  | .stxZp b => [0x86, b]
  | .stxZpy b => [0x96, b]
  | .stxAbs w => encodeWord 0x8E w
  | .styZp b => [0x84, b]
  | .styZpx b => [0x94, b]
  | .styAbs w => encodeWord 0x8C w
  | .tax => [0xAA]
  | .tay => [0xA8]
  | .txa => [0x8A]
  | .tya => [0x98]
  | .tsx => [0xBA]
  | .txs => [0x9A]
  | .adcImm b => [0x69, b]
  | .adcZp b => [0x65, b]
  | .adcZpx b => [0x75, b]
  | .adcAbs w => encodeWord 0x6D w
  | .adcAbsx w => encodeWord 0x7D w
  | .adcAbsy w => encodeWord 0x79 w
  | .adcIndx b => [0x61, b]
  | .adcIndy b => [0x71, b]
  | .sbcImm b => [0xE9, b]
  | .sbcZp b => [0xE5, b]
  | .sbcZpx b => [0xF5, b]
  | .sbcAbs w => encodeWord 0xED w
  | .sbcAbsx w => encodeWord 0xFD w
  | .sbcAbsy w => encodeWord 0xF9 w
  | .sbcIndx b => [0xE1, b]
  | .sbcIndy b => [0xF1, b]
  | .andImm b => [0x29, b]
  | .andZp b => [0x25, b]
  | .andZpx b => [0x35, b]
  | .andAbs w => encodeWord 0x2D w
  | .andAbsx w => encodeWord 0x3D w
  | .andAbsy w => encodeWord 0x39 w
  | .andIndx b => [0x21, b]
  | .andIndy b => [0x31, b]
  | .oraImm b => [0x09, b]
  | .oraZp b => [0x05, b]
  | .oraZpx b => [0x15, b]
  | .oraAbs w => encodeWord 0x0D w
  | .oraAbsx w => encodeWord 0x1D w
  | .oraAbsy w => encodeWord 0x19 w
  | .oraIndx b => [0x01, b]
  | .oraIndy b => [0x11, b]
  | .eorImm b => [0x49, b]
  | .eorZp b => [0x45, b]
  | .eorZpx b => [0x55, b]
  | .eorAbs w => encodeWord 0x4D w
  | .eorAbsx w => encodeWord 0x5D w
  | .eorAbsy w => encodeWord 0x59 w
  | .eorIndx b => [0x41, b]
  | .eorIndy b => [0x51, b]
  | .cmpImm b => [0xC9, b]
  | .cmpZp b => [0xC5, b]
  | .cmpZpx b => [0xD5, b]
  | .cmpAbs w => encodeWord 0xCD w
  | .cmpAbsx w => encodeWord 0xDD w
  | .cmpAbsy w => encodeWord 0xD9 w
  | .cmpIndx b => [0xC1, b]
  | .cmpIndy b => [0xD1, b]
  | .cpxImm b => [0xE0, b]
  | .cpxZp b => [0xE4, b]
  | .cpxAbs w => encodeWord 0xEC w
  | .cpyImm b => [0xC0, b]
  | .cpyZp b => [0xC4, b]
  | .cpyAbs w => encodeWord 0xCC w
  | .bitZp b => [0x24, b]
  | .bitAbs w => encodeWord 0x2C w
  | .aslAcc => [0x0A]
  | .aslZp b => [0x06, b]
  | .aslZpx b => [0x16, b]
  | .aslAbs w => encodeWord 0x0E w
  | .aslAbsx w => encodeWord 0x1E w
  | .lsrAcc => [0x4A]
  | .lsrZp b => [0x46, b]
  | .lsrZpx b => [0x56, b]
  | .lsrAbs w => encodeWord 0x4E w
  | .lsrAbsx w => encodeWord 0x5E w
  | .rolAcc => [0x2A]
  | .rolZp b => [0x26, b]
  | .rolZpx b => [0x36, b]
  | .rolAbs w => encodeWord 0x2E w
  | .rolAbsx w => encodeWord 0x3E w
  | .rorAcc => [0x6A]
  | .rorZp b => [0x66, b]
  | .rorZpx b => [0x76, b]
  | .rorAbs w => encodeWord 0x6E w
  | .rorAbsx w => encodeWord 0x7E w
  | .incZp b => [0xE6, b]
  | .incZpx b => [0xF6, b]
  | .incAbs w => encodeWord 0xEE w
  | .incAbsx w => encodeWord 0xFE w
  | .decZp b => [0xC6, b]
  | .decZpx b => [0xD6, b]
  | .decAbs w => encodeWord 0xCE w
  | .decAbsx w => encodeWord 0xDE w
  | .inx => [0xE8]
  | .iny => [0xC8]
  | .dex => [0xCA]
  | .dey => [0x88]
  | .bpl b => [0x10, b]
  | .bmi b => [0x30, b]
  | .bvc b => [0x50, b]
  | .bvs b => [0x70, b]
  | .bcc b => [0x90, b]
  | .bcs b => [0xB0, b]
  | .bne b => [0xD0, b]
  | .beq b => [0xF0, b]
  | .jmpAbs w => encodeWord 0x4C w
  | .jmpInd w => encodeWord 0x6C w
  | .jsr w => encodeWord 0x20 w
  | .rts => [0x60]
  | .brk b => [0x00, b]
  | .rti => [0x40]
  | .pha => [0x48]
  | .php => [0x08]
  | .pla => [0x68]
  | .plp => [0x28]
  | .clc => [0x18]
  | .sec => [0x38]
  | .cli => [0x58]
  | .sei => [0x78]
  | .cld => [0xD8]
  | .sed => [0xF8]
  | .clv => [0xB8]
  | .nop => [0xEA]
  | .unimpl op => [op]

/-- The bytes of an instruction whose bits are `w`, numbered as spec/opcode_table.json numbers them: byte `k` is bits
8k+7 to 8k; bits from `nbits` up are 0. -/
def tableBytes (nbits w : Nat) : List Byte :=
  let v := w % 2 ^ nbits
  [BitVec.ofNat 8 v, BitVec.ofNat 8 (v / 256), BitVec.ofNat 8 (v / 65536)]

/-- The instruction the decoder reads from a table row's word. -/
def decodeTableWord (nbits w : Nat) : Option Instr := (decode (tableBytes nbits w)).instr?

end Sys2Proof
end

