-- ==== Sys2Proof/Machine/Fetch.lean ====
section
/-! DEFINITION. Fetching an instruction, one read cycle a byte (40_load_store.md R132), and placing one where the
next step fetches it. -/

namespace Sys2Proof.Machine

/-- Fetch the opcode and operand bytes at PC (40_load_store.md R132, 30_encoding.md R101): the instruction and the state
after the fetch cycles.
JSR's high operand byte is the one its cycle 6 reads, so that cycle is left to its meaning (log 16). -/
def fetchInstr (s : State) : Instr × State :=
  let op := fetchByte s
  match shapeOf op.1 with
  | .bare i => (i, op.2)
  | .byte f =>
    let b := fetchByte op.2
    (f b.1, b.2)
  | .word f =>
    let low := fetchByte op.2
    let high := fetchByte low.2
    (f (mkWord high.1 low.1), high.2)
  | .call f =>
    let low := fetchByte op.2
    (f (mkWord (jsrHighByte low.2) low.1), low.2)

/-- Where `placeBytes` puts code when PC does not point into RAM or the cartridge window. -/
def loadAddress : Word := 0xF000

/-- Place bytes in the image from an offset on. -/
def placeRom (o : Nat) : List Byte → Memory → Memory
  | [], m => m
  | b :: bs, m => placeRom (o + 1) bs (m.write o b)

/-- Place bytes in RAM from an offset on. -/
def placeRam (o : Nat) : List Byte → Memory → Memory
  | [], m => m
  | b :: bs, m => placeRam (o + 1) bs (m.write o b)

/-- A 4096-byte image under mapper `none` that keeps the first 4096 bytes of an old image, with `bs` from an offset on. -/
def cartWith (rom : Rom) (o : Nat) (bs : List Byte) : Cart where
  rom := { size := 4096, bytes := placeRom o bs (rom.bytes.filter fun c => decide (c.1 < 4096)) }
  mapper := .none
  bank := 0

/-- Place an instruction's three bytes where the next step fetches it (log 10): in RAM when PC points there with room
for them, else in the cartridge window, at PC when PC points there with room for them and at `loadAddress` otherwise. -/
def placeBytes (bs : List Byte) (s : State) : State :=
  let pc := s.cpu.pc
  match deviceAt (busAddr pc) with
  | .ram =>
    if (busOffset 7 pc).toNat ≤ 125 then { s with ram := placeRam (busOffset 7 pc).toNat bs s.ram }
    else { s with cart := cartWith s.cart.rom 0 bs, cpu := { s.cpu with pc := loadAddress } }
  | .cartridge =>
    if (busOffset 12 pc).toNat ≤ 0xFFD then { s with cart := cartWith s.cart.rom (busOffset 12 pc).toNat bs }
    else { s with cart := cartWith s.cart.rom 0 bs, cpu := { s.cpu with pc := loadAddress } }
  | .tia | .riot => { s with cart := cartWith s.cart.rom 0 bs, cpu := { s.cpu with pc := loadAddress } }

end Sys2Proof.Machine
end

