-- ==== Sys2Proof/Machine/Step.lean ====
section
/-! DEFINITION. One step (60_exceptions.md R411): a host action that falls between two CPU steps, or the fetch and
execution of one instruction. -/

namespace Sys2Proof.Machine

/-- Fetch one instruction and run it (R411). -/
def runInstruction (s : State) : Result :=
  let f := fetchInstr s
  exec f.1 f.2

/-- The CPU step of R411 with the input vector `i`: nothing runs with a refused cartridge (R304) or in the fault state
(R300). -/
def cpuStep (i : Inputs) (s : State) : Result :=
  if s.cart.valid then
    match s.fault with
    | some info => .fault (.unimplementedOpcode info s)
    | none => runInstruction (sampleInputs i s)
  else refuseCartridge s

/-- One step: the next host action, if there is one, is taken off the list and acts first (log 18); it is taken off in the
fault state and with a refused cartridge too, so that the action behind it comes next (log 20). -/
def step (s : State) : Host.Outcome State Fault Refusal :=
  match s.host with
  | [] => cpuStep s.inputs s
  | .sample i :: rest => cpuStep i { s with host := rest }
  | .reset :: rest => takeReset { s with host := rest }
  | .load rom mapper :: rest => loadCartridge rom mapper { s with host := rest }

/-- `s` with an instruction, given as a table word, where the next step fetches it (log 10): no host action waits, the
fault state is clear, and the bytes stand at PC. -/
def State.withFetchWord (s : State) (nbits w : Nat) : State :=
  placeBytes (tableBytes nbits w) { s with host := [], fault := none }

end Sys2Proof.Machine
end

