-- ==== Sys2Proof/WellFormed.lean ====
section
/-! DEFINITION. Which terms of Instr are instructions: every operand value is admitted (30_encoding.md R102), and the
byte of `unimpl` is one of the 105 of R110. -/

namespace Sys2Proof

/-- The 105 undocumented opcode bytes, as 30_encoding.md R110 lists them. -/
def undocumentedBytes : List Byte :=
  [0x02, 0x03, 0x04, 0x07, 0x0B, 0x0C, 0x0F, 0x12, 0x13, 0x14, 0x17, 0x1A, 0x1B, 0x1C, 0x1F, 0x22,
   0x23, 0x27, 0x2B, 0x2F, 0x32, 0x33, 0x34, 0x37, 0x3A, 0x3B, 0x3C, 0x3F, 0x42, 0x43, 0x44, 0x47,
   0x4B, 0x4F, 0x52, 0x53, 0x54, 0x57, 0x5A, 0x5B, 0x5C, 0x5F, 0x62, 0x63, 0x64, 0x67, 0x6B, 0x6F,
   0x72, 0x73, 0x74, 0x77, 0x7A, 0x7B, 0x7C, 0x7F, 0x80, 0x82, 0x83, 0x87, 0x89, 0x8B, 0x8F, 0x92,
   0x93, 0x97, 0x9B, 0x9C, 0x9E, 0x9F, 0xA3, 0xA7, 0xAB, 0xAF, 0xB2, 0xB3, 0xB7, 0xBB, 0xBF, 0xC2,
   0xC3, 0xC7, 0xCB, 0xCF, 0xD2, 0xD3, 0xD4, 0xD7, 0xDA, 0xDB, 0xDC, 0xDF, 0xE2, 0xE3, 0xE7, 0xEB,
   0xEF, 0xF2, 0xF3, 0xF4, 0xF7, 0xFA, 0xFB, 0xFC, 0xFF]

/-- A well-formed instruction. -/
def Instr.wf : Instr → Bool
  | .unimpl op => undocumentedBytes.contains op
  | .ldaImm _ => true
  | .ldaZp _ => true
  | .ldaZpx _ => true
  | .ldaAbs _ => true
  | .ldaAbsx _ => true
  | .ldaAbsy _ => true
  | .ldaIndx _ => true
  | .ldaIndy _ => true
  | .ldxImm _ => true
  | .ldxZp _ => true
  | .ldxZpy _ => true
  | .ldxAbs _ => true
  | .ldxAbsy _ => true
  | .ldyImm _ => true
  | .ldyZp _ => true
  | .ldyZpx _ => true
  | .ldyAbs _ => true
  | .ldyAbsx _ => true
  | .staZp _ => true
  | .staZpx _ => true
  | .staAbs _ => true
  | .staAbsx _ => true
  | .staAbsy _ => true
  | .staIndx _ => true
  | .staIndy _ => true
  | .stxZp _ => true
  | .stxZpy _ => true
  | .stxAbs _ => true
  | .styZp _ => true
  | .styZpx _ => true
  | .styAbs _ => true
  | .tax => true
  | .tay => true
  | .txa => true
  | .tya => true
  | .tsx => true
  | .txs => true
  | .adcImm _ => true
  | .adcZp _ => true
  | .adcZpx _ => true
  | .adcAbs _ => true
  | .adcAbsx _ => true
  | .adcAbsy _ => true
  | .adcIndx _ => true
  | .adcIndy _ => true
  | .sbcImm _ => true
  | .sbcZp _ => true
  | .sbcZpx _ => true
  | .sbcAbs _ => true
  | .sbcAbsx _ => true
  | .sbcAbsy _ => true
  | .sbcIndx _ => true
  | .sbcIndy _ => true
  | .andImm _ => true
  | .andZp _ => true
  | .andZpx _ => true
  | .andAbs _ => true
  | .andAbsx _ => true
  | .andAbsy _ => true
  | .andIndx _ => true
  | .andIndy _ => true
  | .oraImm _ => true
  | .oraZp _ => true
  | .oraZpx _ => true
  | .oraAbs _ => true
  | .oraAbsx _ => true
  | .oraAbsy _ => true
  | .oraIndx _ => true
  | .oraIndy _ => true
  | .eorImm _ => true
  | .eorZp _ => true
  | .eorZpx _ => true
  | .eorAbs _ => true
  | .eorAbsx _ => true
  | .eorAbsy _ => true
  | .eorIndx _ => true
  | .eorIndy _ => true
  | .cmpImm _ => true
  | .cmpZp _ => true
  | .cmpZpx _ => true
  | .cmpAbs _ => true
  | .cmpAbsx _ => true
  | .cmpAbsy _ => true
  | .cmpIndx _ => true
  | .cmpIndy _ => true
  | .cpxImm _ => true
  | .cpxZp _ => true
  | .cpxAbs _ => true
  | .cpyImm _ => true
  | .cpyZp _ => true
  | .cpyAbs _ => true
  | .bitZp _ => true
  | .bitAbs _ => true
  | .aslAcc => true
  | .aslZp _ => true
  | .aslZpx _ => true
  | .aslAbs _ => true
  | .aslAbsx _ => true
  | .lsrAcc => true
  | .lsrZp _ => true
  | .lsrZpx _ => true
  | .lsrAbs _ => true
  | .lsrAbsx _ => true
  | .rolAcc => true
  | .rolZp _ => true
  | .rolZpx _ => true
  | .rolAbs _ => true
  | .rolAbsx _ => true
  | .rorAcc => true
  | .rorZp _ => true
  | .rorZpx _ => true
  | .rorAbs _ => true
  | .rorAbsx _ => true
  | .incZp _ => true
  | .incZpx _ => true
  | .incAbs _ => true
  | .incAbsx _ => true
  | .decZp _ => true
  | .decZpx _ => true
  | .decAbs _ => true
  | .decAbsx _ => true
  | .inx => true
  | .iny => true
  | .dex => true
  | .dey => true
  | .bpl _ => true
  | .bmi _ => true
  | .bvc _ => true
  | .bvs _ => true
  | .bcc _ => true
  | .bcs _ => true
  | .bne _ => true
  | .beq _ => true
  | .jmpAbs _ => true
  | .jmpInd _ => true
  | .jsr _ => true
  | .rts => true
  | .brk _ => true
  | .rti => true
  | .pha => true
  | .php => true
  | .pla => true
  | .plp => true
  | .clc => true
  | .sec => true
  | .cli => true
  | .sei => true
  | .cld => true
  | .sed => true
  | .clv => true
  | .nop => true

end Sys2Proof
end

