-- ==== Sys2Proof/Safety.lean ====
section
/-! DEFINITION. The words claims are made in: where a store lands, how long an instruction takes, which flags it may
write, and the invariants every step keeps. -/

namespace Sys2Proof.Machine

/-- Whether a CPU address selects RAM (20_memory.md R61). -/
def isRam (a : Word) : Bool := deviceAt (busAddr a) == .ram

/-- Whether a CPU address selects the TIA (20_memory.md R61). -/
def isTia (a : Word) : Bool := deviceAt (busAddr a) == .tia

/-- Whether a CPU address selects the RIOT (20_memory.md R61). -/
def isRiot (a : Word) : Bool := deviceAt (busAddr a) == .riot

/-- Whether a CPU address selects the cartridge (20_memory.md R61). -/
def isCart (a : Word) : Bool := deviceAt (busAddr a) == .cartridge

/-- The RAM byte a CPU address designates, where it selects RAM (20_memory.md R64). -/
def ramCell (a : Word) : Nat := (busOffset 7 a).toNat

/-- The byte RAM holds at an address that selects it (20_memory.md R64). -/
def State.ramAt (s : State) (a : Word) : Byte := s.ram.read (ramCell a)

/-- RAM after a store of `v` at `a`: an address that selects another unit leaves it as it is (20_memory.md R64). -/
def storeRam (a : Word) (v : Byte) (m : Memory) : Memory := if isRam a then m.write (ramCell a) v else m

/-- Two addresses that select the same RAM byte. -/
def sameRamByte (a b : Word) : Bool := isRam a && isRam b && ramCell a == ramCell b

/-- `n` bytes fetched at PC one after the other, each in its own read cycle with PC + 1 (10_state.md R39), and the state
after them. -/
def fetchBytes : Nat → State → List Byte × State
  | 0, s => ([], s)
  | n + 1, s =>
    let b := fetchByte s
    let r := fetchBytes n b.2
    (b.1 :: r.1, r.2)

/-- The 56 mnemonics (30_encoding.md R105) and the undocumented bytes (R110). -/
inductive Mnemonic where
  | lda | ldx | ldy | sta | stx | sty | tax | tay | txa | tya | tsx | txs | adc | sbc
  | and | ora | eor | cmp | cpx | cpy | bit | asl | lsr | rol | ror | inc | dec | inx
  | iny | dex | dey | bpl | bmi | bvc | bvs | bcc | bcs | bne | beq | jmp | jsr | rts
  | brk | rti | pha | php | pla | plp | clc | sec | cli | sei | cld | sed | clv | nop
  | unimpl
  deriving DecidableEq, Repr

/-- The mnemonic of an instruction (R105). -/
def mnemonic : Instr → Mnemonic
  | .ldaImm _ | .ldaZp _ | .ldaZpx _ | .ldaAbs _ | .ldaAbsx _ | .ldaAbsy _ | .ldaIndx _ | .ldaIndy _ => .lda
  | .ldxImm _ | .ldxZp _ | .ldxZpy _ | .ldxAbs _ | .ldxAbsy _ => .ldx
  | .ldyImm _ | .ldyZp _ | .ldyZpx _ | .ldyAbs _ | .ldyAbsx _ => .ldy
  | .staZp _ | .staZpx _ | .staAbs _ | .staAbsx _ | .staAbsy _ | .staIndx _ | .staIndy _ => .sta
  | .stxZp _ | .stxZpy _ | .stxAbs _ => .stx
  | .styZp _ | .styZpx _ | .styAbs _ => .sty
  | .tax => .tax
  | .tay => .tay
  | .txa => .txa
  | .tya => .tya
  | .tsx => .tsx
  | .txs => .txs
  | .adcImm _ | .adcZp _ | .adcZpx _ | .adcAbs _ | .adcAbsx _ | .adcAbsy _ | .adcIndx _ | .adcIndy _ => .adc
  | .sbcImm _ | .sbcZp _ | .sbcZpx _ | .sbcAbs _ | .sbcAbsx _ | .sbcAbsy _ | .sbcIndx _ | .sbcIndy _ => .sbc
  | .andImm _ | .andZp _ | .andZpx _ | .andAbs _ | .andAbsx _ | .andAbsy _ | .andIndx _ | .andIndy _ => .and
  | .oraImm _ | .oraZp _ | .oraZpx _ | .oraAbs _ | .oraAbsx _ | .oraAbsy _ | .oraIndx _ | .oraIndy _ => .ora
  | .eorImm _ | .eorZp _ | .eorZpx _ | .eorAbs _ | .eorAbsx _ | .eorAbsy _ | .eorIndx _ | .eorIndy _ => .eor
  | .cmpImm _ | .cmpZp _ | .cmpZpx _ | .cmpAbs _ | .cmpAbsx _ | .cmpAbsy _ | .cmpIndx _ | .cmpIndy _ => .cmp
  | .cpxImm _ | .cpxZp _ | .cpxAbs _ => .cpx
  | .cpyImm _ | .cpyZp _ | .cpyAbs _ => .cpy
  | .bitZp _ | .bitAbs _ => .bit
  | .aslAcc | .aslZp _ | .aslZpx _ | .aslAbs _ | .aslAbsx _ => .asl
  | .lsrAcc | .lsrZp _ | .lsrZpx _ | .lsrAbs _ | .lsrAbsx _ => .lsr
  | .rolAcc | .rolZp _ | .rolZpx _ | .rolAbs _ | .rolAbsx _ => .rol
  | .rorAcc | .rorZp _ | .rorZpx _ | .rorAbs _ | .rorAbsx _ => .ror
  | .incZp _ | .incZpx _ | .incAbs _ | .incAbsx _ => .inc
  | .decZp _ | .decZpx _ | .decAbs _ | .decAbsx _ => .dec
  | .inx => .inx
  | .iny => .iny
  | .dex => .dex
  | .dey => .dey
  | .bpl _ => .bpl
  | .bmi _ => .bmi
  | .bvc _ => .bvc
  | .bvs _ => .bvs
  | .bcc _ => .bcc
  | .bcs _ => .bcs
  | .bne _ => .bne
  | .beq _ => .beq
  | .jmpAbs _ | .jmpInd _ => .jmp
  | .jsr _ => .jsr
  | .rts => .rts
  | .brk _ => .brk
  | .rti => .rti
  | .pha => .pha
  | .php => .php
  | .pla => .pla
  | .plp => .plp
  | .clc => .clc
  | .sec => .sec
  | .cli => .cli
  | .sei => .sei
  | .cld => .cld
  | .sed => .sed
  | .clv => .clv
  | .nop => .nop
  | .unimpl _ => .unimpl

/-- The addresses an instruction's write cycles carry, in order, from the state `s` that `exec` starts in: the effective
address of the write class (40_load_store.md R131), that of the RMW class twice (R143), the stack addresses of the
pushes (43_control_transfer.md R250, R255; 44_stack_flags_system.md R270, R271). -/
def stores (i : Instr) (s : State) : List Word :=
  match i with
  | .staZp b => [(effAddr true (.zp b) s).1]
  | .staZpx b => [(effAddr true (.zpx b) s).1]
  | .staAbs b => [(effAddr true (.abs b) s).1]
  | .staAbsx b => [(effAddr true (.absx b) s).1]
  | .staAbsy b => [(effAddr true (.absy b) s).1]
  | .staIndx b => [(effAddr true (.indx b) s).1]
  | .staIndy b => [(effAddr true (.indy b) s).1]
  | .stxZp b => [(effAddr true (.zp b) s).1]
  | .stxZpy b => [(effAddr true (.zpy b) s).1]
  | .stxAbs b => [(effAddr true (.abs b) s).1]
  | .styZp b => [(effAddr true (.zp b) s).1]
  | .styZpx b => [(effAddr true (.zpx b) s).1]
  | .styAbs b => [(effAddr true (.abs b) s).1]
  | .aslZp b => List.replicate 2 (effAddr true (.zp b) s).1
  | .aslZpx b => List.replicate 2 (effAddr true (.zpx b) s).1
  | .aslAbs b => List.replicate 2 (effAddr true (.abs b) s).1
  | .aslAbsx b => List.replicate 2 (effAddr true (.absx b) s).1
  | .lsrZp b => List.replicate 2 (effAddr true (.zp b) s).1
  | .lsrZpx b => List.replicate 2 (effAddr true (.zpx b) s).1
  | .lsrAbs b => List.replicate 2 (effAddr true (.abs b) s).1
  | .lsrAbsx b => List.replicate 2 (effAddr true (.absx b) s).1
  | .rolZp b => List.replicate 2 (effAddr true (.zp b) s).1
  | .rolZpx b => List.replicate 2 (effAddr true (.zpx b) s).1
  | .rolAbs b => List.replicate 2 (effAddr true (.abs b) s).1
  | .rolAbsx b => List.replicate 2 (effAddr true (.absx b) s).1
  | .rorZp b => List.replicate 2 (effAddr true (.zp b) s).1
  | .rorZpx b => List.replicate 2 (effAddr true (.zpx b) s).1
  | .rorAbs b => List.replicate 2 (effAddr true (.abs b) s).1
  | .rorAbsx b => List.replicate 2 (effAddr true (.absx b) s).1
  | .incZp b => List.replicate 2 (effAddr true (.zp b) s).1
  | .incZpx b => List.replicate 2 (effAddr true (.zpx b) s).1
  | .incAbs b => List.replicate 2 (effAddr true (.abs b) s).1
  | .incAbsx b => List.replicate 2 (effAddr true (.absx b) s).1
  | .decZp b => List.replicate 2 (effAddr true (.zp b) s).1
  | .decZpx b => List.replicate 2 (effAddr true (.zpx b) s).1
  | .decAbs b => List.replicate 2 (effAddr true (.abs b) s).1
  | .decAbsx b => List.replicate 2 (effAddr true (.absx b) s).1
  | .pha | .php => [stackAddr s.cpu.s]
  | .jsr _ => [stackAddr s.cpu.s, stackAddr (s.cpu.s - 1)]
  | .brk _ => [stackAddr s.cpu.s, stackAddr (s.cpu.s - 1), stackAddr (s.cpu.s - 2)]
  | .ldaImm _ | .ldaZp _ | .ldaZpx _ | .ldaAbs _ | .ldaAbsx _ | .ldaAbsy _ | .ldaIndx _ | .ldaIndy _
    | .ldxImm _ | .ldxZp _ | .ldxZpy _ | .ldxAbs _ | .ldxAbsy _ | .ldyImm _ | .ldyZp _ | .ldyZpx _ | .ldyAbs _
    | .ldyAbsx _ | .tax | .tay | .txa | .tya | .tsx | .txs | .adcImm _ | .adcZp _ | .adcZpx _ | .adcAbs _
    | .adcAbsx _ | .adcAbsy _ | .adcIndx _ | .adcIndy _ | .sbcImm _ | .sbcZp _ | .sbcZpx _ | .sbcAbs _
    | .sbcAbsx _ | .sbcAbsy _ | .sbcIndx _ | .sbcIndy _ | .andImm _ | .andZp _ | .andZpx _ | .andAbs _
    | .andAbsx _ | .andAbsy _ | .andIndx _ | .andIndy _ | .oraImm _ | .oraZp _ | .oraZpx _ | .oraAbs _
    | .oraAbsx _ | .oraAbsy _ | .oraIndx _ | .oraIndy _ | .eorImm _ | .eorZp _ | .eorZpx _ | .eorAbs _
    | .eorAbsx _ | .eorAbsy _ | .eorIndx _ | .eorIndy _ | .cmpImm _ | .cmpZp _ | .cmpZpx _ | .cmpAbs _
    | .cmpAbsx _ | .cmpAbsy _ | .cmpIndx _ | .cmpIndy _ | .cpxImm _ | .cpxZp _ | .cpxAbs _ | .cpyImm _
    | .cpyZp _ | .cpyAbs _ | .bitZp _ | .bitAbs _ | .aslAcc | .lsrAcc | .rolAcc | .rorAcc | .inx | .iny | .dex
    | .dey | .bpl _ | .bmi _ | .bvc _ | .bvs _ | .bcc _ | .bcs _ | .bne _ | .beq _ | .jmpAbs _ | .jmpInd _
    | .rts | .rti | .pla | .plp | .clc | .sec | .cli | .sei | .cld | .sed | .clv | .nop | .unimpl _ => []

/-- The cycle count of an instruction without its conditional cycles: `cycles` of spec/opcode_table.json
(70_reset_and_hazards.md R460); an undocumented byte takes its fetch cycle (R461). -/
def baseCycles : Instr → Nat
  | .ldaImm _ | .ldxImm _ | .ldyImm _ | .tax | .tay | .txa | .tya | .tsx | .txs | .adcImm _ | .sbcImm _
    | .andImm _ | .oraImm _ | .eorImm _ | .cmpImm _ | .cpxImm _ | .cpyImm _ | .aslAcc | .lsrAcc | .rolAcc
    | .rorAcc | .inx | .iny | .dex | .dey | .bpl _ | .bmi _ | .bvc _ | .bvs _ | .bcc _ | .bcs _ | .bne _
    | .beq _ | .clc | .sec | .cli | .sei | .cld | .sed | .clv | .nop => 2
  | .ldaZp _ | .ldxZp _ | .ldyZp _ | .staZp _ | .stxZp _ | .styZp _ | .adcZp _ | .sbcZp _ | .andZp _
    | .oraZp _ | .eorZp _ | .cmpZp _ | .cpxZp _ | .cpyZp _ | .bitZp _ | .jmpAbs _ | .pha | .php => 3
  | .ldaZpx _ | .ldaAbs _ | .ldaAbsx _ | .ldaAbsy _ | .ldxZpy _ | .ldxAbs _ | .ldxAbsy _ | .ldyZpx _
    | .ldyAbs _ | .ldyAbsx _ | .staZpx _ | .staAbs _ | .stxZpy _ | .stxAbs _ | .styZpx _ | .styAbs _
    | .adcZpx _ | .adcAbs _ | .adcAbsx _ | .adcAbsy _ | .sbcZpx _ | .sbcAbs _ | .sbcAbsx _ | .sbcAbsy _
    | .andZpx _ | .andAbs _ | .andAbsx _ | .andAbsy _ | .oraZpx _ | .oraAbs _ | .oraAbsx _ | .oraAbsy _
    | .eorZpx _ | .eorAbs _ | .eorAbsx _ | .eorAbsy _ | .cmpZpx _ | .cmpAbs _ | .cmpAbsx _ | .cmpAbsy _
    | .cpxAbs _ | .cpyAbs _ | .bitAbs _ | .pla | .plp => 4
  | .ldaIndy _ | .staAbsx _ | .staAbsy _ | .adcIndy _ | .sbcIndy _ | .andIndy _ | .oraIndy _ | .eorIndy _
    | .cmpIndy _ | .aslZp _ | .lsrZp _ | .rolZp _ | .rorZp _ | .incZp _ | .decZp _ | .jmpInd _ => 5
  | .ldaIndx _ | .staIndx _ | .staIndy _ | .adcIndx _ | .sbcIndx _ | .andIndx _ | .oraIndx _ | .eorIndx _
    | .cmpIndx _ | .aslZpx _ | .aslAbs _ | .lsrZpx _ | .lsrAbs _ | .rolZpx _ | .rolAbs _ | .rorZpx _
    | .rorAbs _ | .incZpx _ | .incAbs _ | .decZpx _ | .decAbs _ | .jsr _ | .rts | .rti => 6
  | .aslAbsx _ | .lsrAbsx _ | .rolAbsx _ | .rorAbsx _ | .incAbsx _ | .decAbsx _ | .brk _ => 7
  | .unimpl _ => 1

/-- One cycle if a condition holds. -/
def oneIf (b : Bool) : Nat := if b then 1 else 0

/-- The cycles a branch adds (43_control_transfer.md R240): one when taken, one more when its target lies in another
page than the next instruction, whose address is PC. -/
def branchCycles (taken : Bool) (offset : Byte) (s : State) : Nat :=
  oneIf taken + oneIf (taken && hiByte (s.cpu.pc + signExtendByte offset) != hiByte s.cpu.pc)

/-- The conditional cycles of an instruction (`extra_cycles` of spec/opcode_table.json, 70_reset_and_hazards.md R460)
from the state `s` that `exec` starts in. -/
def extraCycles (i : Instr) (s : State) : Nat :=
  match i with
  | .ldaAbsx b | .ldyAbsx b | .adcAbsx b | .sbcAbsx b | .andAbsx b | .oraAbsx b | .eorAbsx b | .cmpAbsx b => oneIf (crossesPage b s.cpu.x)
  | .ldaAbsy b | .ldxAbsy b | .adcAbsy b | .sbcAbsy b | .andAbsy b | .oraAbsy b | .eorAbsy b | .cmpAbsy b => oneIf (crossesPage b s.cpu.y)
  | .ldaIndy b | .adcIndy b | .sbcIndy b | .andIndy b | .oraIndy b | .eorIndy b | .cmpIndy b => oneIf (crossesPage (zpPointer b s).1 s.cpu.y)
  | .bpl b => branchCycles (!s.cpu.p.n) b s
  | .bmi b => branchCycles (s.cpu.p.n) b s
  | .bvc b => branchCycles (!s.cpu.p.v) b s
  | .bvs b => branchCycles (s.cpu.p.v) b s
  | .bcc b => branchCycles (!s.cpu.p.c) b s
  | .bcs b => branchCycles (s.cpu.p.c) b s
  | .bne b => branchCycles (!s.cpu.p.z) b s
  | .beq b => branchCycles (s.cpu.p.z) b s
  | .ldaImm _ | .ldaZp _ | .ldaZpx _ | .ldaAbs _ | .ldaIndx _ | .ldxImm _ | .ldxZp _ | .ldxZpy _ | .ldxAbs _
    | .ldyImm _ | .ldyZp _ | .ldyZpx _ | .ldyAbs _ | .staZp _ | .staZpx _ | .staAbs _ | .staAbsx _
    | .staAbsy _ | .staIndx _ | .staIndy _ | .stxZp _ | .stxZpy _ | .stxAbs _ | .styZp _ | .styZpx _
    | .styAbs _ | .tax | .tay | .txa | .tya | .tsx | .txs | .adcImm _ | .adcZp _ | .adcZpx _ | .adcAbs _
    | .adcIndx _ | .sbcImm _ | .sbcZp _ | .sbcZpx _ | .sbcAbs _ | .sbcIndx _ | .andImm _ | .andZp _
    | .andZpx _ | .andAbs _ | .andIndx _ | .oraImm _ | .oraZp _ | .oraZpx _ | .oraAbs _ | .oraIndx _
    | .eorImm _ | .eorZp _ | .eorZpx _ | .eorAbs _ | .eorIndx _ | .cmpImm _ | .cmpZp _ | .cmpZpx _ | .cmpAbs _
    | .cmpIndx _ | .cpxImm _ | .cpxZp _ | .cpxAbs _ | .cpyImm _ | .cpyZp _ | .cpyAbs _ | .bitZp _ | .bitAbs _
    | .aslAcc | .aslZp _ | .aslZpx _ | .aslAbs _ | .aslAbsx _ | .lsrAcc | .lsrZp _ | .lsrZpx _ | .lsrAbs _
    | .lsrAbsx _ | .rolAcc | .rolZp _ | .rolZpx _ | .rolAbs _ | .rolAbsx _ | .rorAcc | .rorZp _ | .rorZpx _
    | .rorAbs _ | .rorAbsx _ | .incZp _ | .incZpx _ | .incAbs _ | .incAbsx _ | .decZp _ | .decZpx _
    | .decAbs _ | .decAbsx _ | .inx | .iny | .dex | .dey | .jmpAbs _ | .jmpInd _ | .jsr _ | .rts | .brk _
    | .rti | .pha | .php | .pla | .plp | .clc | .sec | .cli | .sei | .cld | .sed | .clv | .nop | .unimpl _ => 0

/-- The writers of C (10_state.md R35). -/
def carryWriters : List Mnemonic :=
  [.adc, .sbc, .cmp, .cpx, .cpy, .asl, .lsr, .rol, .ror, .clc, .sec, .plp, .rti]

/-- The writers of Z and N (10_state.md R35). -/
def zeroNegativeWriters : List Mnemonic :=
  [.adc, .sbc, .and, .ora, .eor, .cmp, .cpx, .cpy, .bit, .asl, .lsr, .rol, .ror, .inc, .dec, .inx, .iny, .dex, .dey,
    .lda, .ldx, .ldy, .tax, .tay, .txa, .tya, .tsx, .pla, .plp, .rti]

/-- The writers of V (10_state.md R35). -/
def overflowWriters : List Mnemonic := [.adc, .sbc, .bit, .clv, .plp, .rti]

/-- The writers of D (10_state.md R35). -/
def decimalWriters : List Mnemonic := [.cld, .sed, .plp, .rti]

/-- The writers of I (10_state.md R35). -/
def interruptWriters : List Mnemonic := [.cli, .sei, .brk, .plp, .rti]

/-- The writers of A (10_state.md R31). -/
def accumulatorWriters : List Mnemonic :=
  [.lda, .pla, .txa, .tya, .adc, .sbc, .and, .ora, .eor, .asl, .lsr, .rol, .ror]

/-- The writers of X (10_state.md R32). -/
def xWriters : List Mnemonic := [.ldx, .tax, .tsx, .inx, .dex]

/-- The writers of Y (10_state.md R32). -/
def yWriters : List Mnemonic := [.ldy, .tay, .iny, .dey]

/-- The writers of S (10_state.md R37). -/
def stackWriters : List Mnemonic := [.txs, .pha, .php, .pla, .plp, .jsr, .rts, .brk, .rti]

/-- The control transfers, which set PC (43_control_transfer.md). -/
def controlTransfers : List Mnemonic :=
  [.bpl, .bmi, .bvc, .bvs, .bcc, .bcs, .bne, .beq, .jmp, .jsr, .rts, .brk, .rti]

/-- A step is safe to take: the cartridge was accepted (60_exceptions.md R304) and the fault state is clear (R300). -/
def State.running (s : State) : Bool := s.cart.valid && s.fault.isNone

/-- The value a write register holds (60_exceptions.md R341); a strobe holds none and gives 0.
GRP0, GRP1 and ENABL give their `new` slot. -/
def TiaRegs.stored (r : TiaRegs) : TiaReg → Byte
  | .vsync => r.vsync
  | .vblank => r.vblank
  | .nusiz0 => r.nusiz0
  | .nusiz1 => r.nusiz1
  | .colup0 => r.colup0
  | .colup1 => r.colup1
  | .colupf => r.colupf
  | .colubk => r.colubk
  | .ctrlpf => r.ctrlpf
  | .refp0 => r.refp0
  | .refp1 => r.refp1
  | .pf0 => r.pf0
  | .pf1 => r.pf1
  | .pf2 => r.pf2
  | .audc0 => r.audc0
  | .audc1 => r.audc1
  | .audf0 => r.audf0
  | .audf1 => r.audf1
  | .audv0 => r.audv0
  | .audv1 => r.audv1
  | .grp0 => r.grp0New
  | .grp1 => r.grp1New
  | .enam0 => r.enam0
  | .enam1 => r.enam1
  | .enabl => r.enablNew
  | .hmp0 => r.hmp0
  | .hmp1 => r.hmp1
  | .hmm0 => r.hmm0
  | .hmm1 => r.hmm1
  | .hmbl => r.hmbl
  | .vdelp0 => r.vdelp0
  | .vdelp1 => r.vdelp1
  | .vdelbl => r.vdelbl
  | .resmp0 => r.resmp0
  | .resmp1 => r.resmp1
  | .wsync | .rsync | .resp0 | .resp1 | .resm0 | .resm1 | .resbl | .hmove | .hmclr | .cxclr => 0

/-- A strobe: a register that stores nothing, whose write is the effect (60_exceptions.md R341). -/
def TiaReg.isStrobe : TiaReg → Bool
  | .wsync | .rsync | .resp0 | .resp1 | .resm0 | .resm1 | .resbl | .hmove | .hmclr | .cxclr => true
  | .vsync | .vblank | .nusiz0 | .nusiz1 | .colup0 | .colup1 | .colupf | .colubk | .ctrlpf
  | .refp0 | .refp1 | .pf0 | .pf1 | .pf2 | .audc0 | .audc1 | .audf0 | .audf1 | .audv0 | .audv1
  | .grp0 | .grp1 | .enam0 | .enam1 | .enabl | .hmp0 | .hmp1 | .hmm0 | .hmm1 | .hmbl
  | .vdelp0 | .vdelp1 | .vdelbl | .resmp0 | .resmp1 => false

/-- The beam stands at a cycle's start: `hcount` in 0 to 227 and a multiple of 3, `vcount` in 0 to 261
(60_exceptions.md R345, R352, R356). -/
def BeamInRange (t : Tia) : Prop := t.hcount < 228 ∧ t.hcount % 3 = 0 ∧ t.vcount < 262

/-- The colour clocks from the start of the frame to the beam (60_exceptions.md R356). -/
def Tia.beam (t : Tia) : Nat := t.vcount * 228 + t.hcount

/-- RAM is in canonical form and lists only its 128 bytes (20_memory.md R64). -/
def RamFormed (m : Memory) : Prop := m.wf = true ∧ ∀ c ∈ m, c.1 < 128

/-- A row is in canonical form, lists only columns 0 to 159, and every byte has bit 0 = 0 (60_exceptions.md R395). -/
def RowFormed (m : Memory) : Prop := m.wf = true ∧ ∀ c ∈ m, c.1 < 160 ∧ bitAt c.2 0 = false

/-- A raster is in canonical form and lists only rows 0 to 191, each of them formed (60_exceptions.md R395). -/
def RasterFormed (r : Raster) : Prop := cellsWf [] r = true ∧ ∀ c ∈ r, c.1 < 192 ∧ RowFormed c.2

/-- Every write register, and every old slot, holds no bit outside its mask (60_exceptions.md R341, R383). -/
def RegsMasked (r : TiaRegs) : Prop :=
  (∀ reg : TiaReg, r.stored reg &&& ~~~reg.mask = 0) ∧ r.enablOld &&& 0xFD = 0
    ∧ r.colup0Old &&& 1 = 0 ∧ r.colup1Old &&& 1 = 0 ∧ r.colupfOld &&& 1 = 0

/-- The five counters are in 0 to 159 (60_exceptions.md R370). -/
def PositionsInRange (p : Positions) : Prop := p.p0 < 160 ∧ p.p1 < 160 ∧ p.m0 < 160 ∧ p.m1 < 160 ∧ p.bl < 160

/-- The prescaler is in 1 to the divisor (60_exceptions.md R322). -/
def TimerInRange (r : Riot) : Prop := 1 ≤ r.pre ∧ r.pre ≤ r.div.toNat

/-- The fire-button latches are held at 1 while VBLANK bit 6 = 0 (60_exceptions.md R387). -/
def LatchesHeld (t : Tia) : Prop := bitAt t.regs.vblank 6 = false → t.latch4 = true ∧ t.latch5 = true

/-- What the memories and the picture hold is in its one form: RAM, the row being written, the raster, and every
raster handed off. -/
def StoresFormed (s : State) : Prop :=
  RamFormed s.ram ∧ RowFormed s.tia.line ∧ RasterFormed s.tia.raster ∧ ∀ f ∈ s.tia.frames, RasterFormed f

/-- The device registers hold what the spec lets them hold. -/
def DevicesInRange (s : State) : Prop :=
  RegsMasked s.tia.regs ∧ PositionsInRange s.tia.pos ∧ TimerInRange s.riot ∧ LatchesHeld s.tia

/-- The invariant of the whole machine. -/
def MachineInvariant (s : State) : Prop := BeamInRange s.tia ∧ DevicesInRange s ∧ StoresFormed s

end Sys2Proof.Machine
end

