-- ==== Sys2Proof/Certificates/Slice0/Obligations.lean ====
section
/-! DEFINITION. The statements for the provers, with the words they are made in: each follows the rule of spec/ its
docstring names. -/

namespace Sys2Proof.Claims

open Sys2Proof.Machine

/-- A 16-bit address from a number, modulo 2^16 (00_scope.md R11). -/
def addr (n : Nat) : Word := BitVec.ofNat 16 n

/-- The word of a high and a low byte, h * 256 + l (00_scope.md R11). -/
def word (h l : Byte) : Word := addr (h.toNat * 256 + l.toNat)

/-- `s8` of a number below 256 (00_scope.md R11). -/
def s8 (n : Nat) : Int := if n < 128 then n else (n : Int) - 256

/-- `NZ(v)` (00_scope.md R12). -/
def nz (p : Flags) (v : Byte) : Flags := { p with n := v.msb, z := decide (v.toNat = 0) }

/-- The opcode byte of an instruction (30_encoding.md R100). -/
def HasOpcode (op : Byte) (i : Instr) : Prop := (encode i).head? = some op

/-- Where a read-class instruction takes its operand (40_load_store.md R131, R135). -/
inductive Source where
  | imm (v : Byte)
  | mem (m : Addr)

/-- The operand, and the state after the cycles that read it: none for an immediate, whose fetch is its read. -/
def Source.read : Source → State → Byte × State
  | .imm v, s => (v, s)
  | .mem m, s =>
    let e := effAddr false m s
    readCycle e.1 e.2

/-- A read-class instruction: it always completes, in the state its operand's cycles leave, with the registers `f`
computes from the operand; nothing else differs. -/
def ReadsTo (op : Byte) (i : Instr) (src : Source) (f : DecimalMode → Byte → Cpu → Cpu) : Prop :=
  HasOpcode op i ∧ ∀ s : State,
    exec i s = .next { (src.read s).2 with cpu := f s.params.decimalMode (src.read s).1 s.cpu }

/-- A write-class instruction: it always completes after the write of the register at the effective address; no register
and no flag changes; where the address selects RAM, that byte holds the register afterwards. -/
def WritesTo (op : Byte) (i : Instr) (m : Addr) (reg : Cpu → Byte) : Prop :=
  HasOpcode op i ∧ ∀ s : State,
    let e := effAddr true m s
    exec i s = .next (writeCycle e.1 (reg s.cpu) e.2)
      ∧ (writeCycle e.1 (reg s.cpu) e.2).cpu = s.cpu
      ∧ (isRam e.1 = true → s.ram.wf = true → (writeCycle e.1 (reg s.cpu) e.2).ramAt e.1 = reg s.cpu)

/-- A read-modify-write instruction: it always completes, having read M, written M back and written the result; only the
flags change among the registers; where the address selects RAM, M is that byte and the byte holds the result. -/
def Modifies (op : Byte) (i : Instr) (m : Addr) (f : Flags → Byte → Byte × Flags) : Prop :=
  HasOpcode op i ∧ ∀ s : State,
    let e := effAddr true m s
    let r := readCycle e.1 e.2
    let result := f s.cpu.p r.1
    let t : State :=
      { writeCycle e.1 result.1 (writeCycle e.1 r.1 r.2) with cpu := { s.cpu with p := result.2 } }
    exec i s = .next t
      ∧ (isRam e.1 = true → s.ram.wf = true → r.1 = s.ramAt e.1 ∧ t.ramAt e.1 = result.1)

/-- An accumulator form: it always completes after its dummy read at PC; A and the flags change. -/
def ShiftsA (op : Byte) (i : Instr) (f : Flags → Byte → Byte × Flags) : Prop :=
  HasOpcode op i ∧ ∀ s : State,
    exec i s = .next { dummyRead s.cpu.pc s with
      cpu := { s.cpu with a := (f s.cpu.p s.cpu.a).1, p := (f s.cpu.p s.cpu.a).2 } }

/-- A two-cycle implied instruction: it always completes after its dummy read at PC, with the registers `f` gives. -/
def Implied (op : Byte) (i : Instr) (f : Cpu → Cpu) : Prop :=
  HasOpcode op i ∧ ∀ s : State, exec i s = .next { dummyRead s.cpu.pc s with cpu := f s.cpu }

/-- A conditional branch, from the state in which PC is the next instruction's address (43_control_transfer.md R240). -/
def BranchesOn (op : Byte) (i : Byte → Instr) (taken : Flags → Bool) : Prop :=
  ∀ (b : Byte) (s : State), HasOpcode op (i b) ∧
    let next := s.cpu.pc
    let target : Word := BitVec.ofInt 16 (next.toNat + s8 b.toNat)
    (taken s.cpu.p = false → exec (i b) s = .next s)
      ∧ (taken s.cpu.p = true → target.toNat / 256 = next.toNat / 256 →
        exec (i b) s = .next { dummyRead next s with cpu := { s.cpu with pc := target } })
      ∧ (taken s.cpu.p = true → target.toNat / 256 ≠ next.toNat / 256 →
        exec (i b) s = .next
          { dummyRead (addr (next.toNat / 256 * 256 + target.toNat % 256)) (dummyRead next s) with
            cpu := { s.cpu with pc := target } })

/-- LDA (R150). -/
def lda (_ : DecimalMode) (m : Byte) (c : Cpu) : Cpu := { c with a := m, p := nz c.p m }

/-- LDX (R151). -/
def ldx (_ : DecimalMode) (m : Byte) (c : Cpu) : Cpu := { c with x := m, p := nz c.p m }

/-- LDY (R152). -/
def ldy (_ : DecimalMode) (m : Byte) (c : Cpu) : Cpu := { c with y := m, p := nz c.p m }

/-- Decimal addition as the pseudocode of R182 gives it, in numbers. -/
def adcBcd (m : Byte) (c : Cpu) : Cpu :=
  let a := c.a.toNat
  let k := carryNat c.p.c
  let al0 := a % 16 + m.toNat % 16 + k
  let al := if 10 ≤ al0 then (al0 + 6) % 16 + 16 else al0
  let r0 := a / 16 * 16 + m.toNat / 16 * 16 + al
  let rs : Int := s8 (a / 16 * 16) + s8 (m.toNat / 16 * 16) + al
  let r := if 160 ≤ r0 then r0 + 96 else r0
  { c with
    a := BitVec.ofNat 8 r
    p := { c.p with
      n := decide (128 ≤ rs % 256)
      v := decide (rs < -128 ∨ 127 < rs)
      c := decide (256 ≤ r)
      z := decide ((a + m.toNat + k) % 256 = 0) } }

/-- ADC (R184, and R182 where DECIMAL_MODE is nmos_bcd and D = 1). -/
def adc (mode : DecimalMode) (m : Byte) (c : Cpu) : Cpu :=
  if c.p.d = true ∧ mode = .nmosBcd then adcBcd m c
  else
    let t := c.a.toNat + m.toNat + carryNat c.p.c
    let r : Byte := BitVec.ofNat 8 t
    { c with
      a := r
      p := { nz c.p r with
        v := decide (~~~(c.a ^^^ m) &&& (c.a ^^^ r) &&& 0x80 ≠ 0)
        c := decide (256 ≤ t) } }

/-- The flags of SBC (R185). -/
def sbcFlags (m : Byte) (c : Cpu) : Flags :=
  let t := c.a.toNat + (255 - m.toNat) + carryNat c.p.c
  let r : Byte := BitVec.ofNat 8 t
  { nz c.p r with
    v := decide ((c.a ^^^ r) &&& (c.a ^^^ m) &&& 0x80 ≠ 0)
    c := decide (256 ≤ t) }

/-- SBC (R185, and the result of R183 where DECIMAL_MODE is nmos_bcd and D = 1). -/
def sbc (mode : DecimalMode) (m : Byte) (c : Cpu) : Cpu :=
  let a := c.a.toNat
  let k := carryNat c.p.c
  let al0 : Int := (a % 16 : Nat) - (m.toNat % 16 : Nat) + k - 1
  let al := if al0 < 0 then (al0 - 6) % 16 - 16 else al0
  let r0 : Int := (a / 16 * 16 : Nat) - (m.toNat / 16 * 16 : Nat) + al
  let r := if r0 < 0 then r0 - 96 else r0
  { c with
    a := if c.p.d = true ∧ mode = .nmosBcd then BitVec.ofInt 8 r else BitVec.ofNat 8 (a + (255 - m.toNat) + k)
    p := sbcFlags m c }

/-- AND (R186). -/
def and (_ : DecimalMode) (m : Byte) (c : Cpu) : Cpu := { c with a := c.a &&& m, p := nz c.p (c.a &&& m) }

/-- ORA (R187). -/
def ora (_ : DecimalMode) (m : Byte) (c : Cpu) : Cpu := { c with a := c.a ||| m, p := nz c.p (c.a ||| m) }

/-- EOR (R188). -/
def eor (_ : DecimalMode) (m : Byte) (c : Cpu) : Cpu := { c with a := c.a ^^^ m, p := nz c.p (c.a ^^^ m) }

/-- The flags of a compare of `r` with `m` (R189 to R191). -/
def compare (p : Flags) (r m : Byte) : Flags :=
  { p with
    n := decide (128 ≤ (r.toNat + 256 - m.toNat) % 256)
    z := decide (r = m)
    c := decide (m.toNat ≤ r.toNat) }

/-- CMP (R189). -/
def cmp (_ : DecimalMode) (m : Byte) (c : Cpu) : Cpu := { c with p := compare c.p c.a m }

/-- CPX (R190). -/
def cpx (_ : DecimalMode) (m : Byte) (c : Cpu) : Cpu := { c with p := compare c.p c.x m }

/-- CPY (R191). -/
def cpy (_ : DecimalMode) (m : Byte) (c : Cpu) : Cpu := { c with p := compare c.p c.y m }

/-- BIT (R192). -/
def bit (_ : DecimalMode) (m : Byte) (c : Cpu) : Cpu :=
  { c with p := { c.p with z := decide (c.a &&& m = 0), n := m.getLsbD 7, v := m.getLsbD 6 } }

/-- ASL (R220). -/
def asl (p : Flags) (m : Byte) : Byte × Flags :=
  let r : Byte := BitVec.ofNat 8 (m.toNat * 2)
  (r, { nz p r with c := decide (128 ≤ m.toNat) })

/-- LSR (R221). -/
def lsr (p : Flags) (m : Byte) : Byte × Flags :=
  let r : Byte := BitVec.ofNat 8 (m.toNat / 2)
  (r, { nz p r with n := false, c := decide (m.toNat % 2 = 1) })

/-- ROL (R222). -/
def rol (p : Flags) (m : Byte) : Byte × Flags :=
  let r : Byte := BitVec.ofNat 8 (m.toNat * 2 + carryNat p.c)
  (r, { nz p r with c := decide (128 ≤ m.toNat) })

/-- ROR (R223). -/
def ror (p : Flags) (m : Byte) : Byte × Flags :=
  let r : Byte := BitVec.ofNat 8 (m.toNat / 2 + 128 * carryNat p.c)
  (r, { nz p r with n := p.c, c := decide (m.toNat % 2 = 1) })

/-- INC (R224). -/
def inc (p : Flags) (m : Byte) : Byte × Flags :=
  let r : Byte := BitVec.ofNat 8 (m.toNat + 1)
  (r, nz p r)

/-- DEC (R225). -/
def dec (p : Flags) (m : Byte) : Byte × Flags :=
  let r : Byte := BitVec.ofNat 8 (m.toNat + 255)
  (r, nz p r)

/-- The byte of a two-digit decimal number. -/
def bcd (n : Nat) : Byte := BitVec.ofNat 8 (n / 10 * 16 + n % 10)

/-- Every latch set on the left is set on the right. -/
def LatchesGrow (c d : Collisions) : Prop :=
  (c.m0p1 → d.m0p1) ∧ (c.m0p0 → d.m0p0) ∧ (c.m1p0 → d.m1p0) ∧ (c.m1p1 → d.m1p1) ∧ (c.p0pf → d.p0pf)
    ∧ (c.p0bl → d.p0bl) ∧ (c.p1pf → d.p1pf) ∧ (c.p1bl → d.p1bl) ∧ (c.m0pf → d.m0pf) ∧ (c.m0bl → d.m0bl)
    ∧ (c.m1pf → d.m1pf) ∧ (c.m1bl → d.m1bl) ∧ (c.blpf → d.blpf) ∧ (c.p0p1 → d.p0p1) ∧ (c.m0m1 → d.m0m1)

/-- The copy offsets of a player and its missile, by NUSIZ[2:0] (60_exceptions.md R363). -/
def copies (nusiz : Byte) : List Nat :=
  [[0], [0, 16], [0, 32], [0, 16, 32], [0, 64], [0], [0, 32, 64], [0]].getD (nusiz.toNat % 8) []

/-- The player scale, by NUSIZ[2:0] (60_exceptions.md R363). -/
def scale (nusiz : Byte) : Nat := [1, 1, 1, 1, 1, 2, 1, 4].getD (nusiz.toNat % 8) 1

/-- A player with counter `c` is active (60_exceptions.md R362, R364). -/
def PlayerDrawn (p : Params) (c : Nat) (nusiz shape refp : Byte) : Prop :=
  let m := scale nusiz
  let wd : Int := if 1 < m ∧ p.widePlayerDelay = true then 1 else 0
  ∃ s ∈ copies nusiz, ∃ d : Nat, (d : Int) = ((c : Int) - s - wd) % 160 ∧ d < 8 * m
    ∧ shape.getLsbD (if refp.getLsbD 3 = true then d / m else 7 - d / m) = true

/-- A missile with counter `c` is active (60_exceptions.md R365). -/
def MissileDrawn (c : Nat) (nusiz enam resmp : Byte) : Prop :=
  enam.getLsbD 1 = true ∧ resmp.getLsbD 1 = false
    ∧ ∃ s ∈ copies nusiz, ((c : Int) - s) % 160 < 2 ^ (nusiz.toNat / 16 % 4)

/-- The ball with counter `c` is active (60_exceptions.md R366). -/
def BallDrawn (c : Nat) (enable ctrlpf : Byte) : Prop := enable.getLsbD 1 = true ∧ c < 2 ^ (ctrlpf.toNat / 16 % 4)

/-- The colour clock being processed gives the normal motion clock (60_exceptions.md R344). -/
def clocked (t : Tia) : Bool := decide (68 ≤ t.hcount ∧ ¬(t.motion.ext = true ∧ t.hcount < 76))

/-- The tick is a pulse slot below the count that a motion register asks for (60_exceptions.md R374). -/
def pulsed (p : Params) (m : Motion) (hm : Byte) : Bool :=
  decide (m.active = true ∧ ∃ k, k < (hm.toNat / 16 ^^^ 8) ∧ m.t = p.hmovePulseStart.val + 4 * k)

/-- A position counter after a tick, before the RESMP locks (60_exceptions.md R344, R370). -/
def advanced (p : Params) (t : Tia) (hm : Byte) (c : Nat) : Nat :=
  if clocked t || pulsed p t.motion hm then (c + 1) % 160 else c

/-- The counter of a missile after the RESMP lock (60_exceptions.md R377), from its player's counter and its own. -/
def locked (p : Params) (resmp nusiz : Byte) (player missile : Nat) : Nat :=
  let offset := if scale nusiz = 1 then p.resmpOffsetSingle
    else if scale nusiz = 2 then p.resmpOffsetDouble else p.resmpOffsetQuad
  if resmp.getLsbD 1 = true then (((player : Int) - offset) % 160).toNat else missile

/-- The end of a line whose row is `line`, from `t` to `u` (60_exceptions.md R345, R352, R353, R395, R396): the row becomes
row `vcount - VISIBLE_FIRST_LINE` of the raster where the line is visible, a fresh row starts, and where `vcount` becomes 0
the raster is handed off and a fresh one starts. -/
def LineEnds (p : Params) (line : Memory) (t u : Tia) : Prop :=
  let first := p.visibleFirstLine.val
  let v := (t.vcount + 1) % 262
  u.hcount = 0 ∧ u.waiting = false ∧ u.vcount = v ∧ u.line = []
    ∧ ∃ raster : Raster,
      (∀ k, raster.row k =
        if first ≤ t.vcount ∧ t.vcount < first + 192 ∧ k = t.vcount - first then line else t.raster.row k)
      ∧ (v = 0 → u.raster = [] ∧ u.frames = raster :: t.frames)
      ∧ (v ≠ 0 → u.raster = raster ∧ u.frames = t.frames)

/-- The 20-bit playfield pattern (60_exceptions.md R360). -/
def playfieldPattern (r : TiaRegs) : List Bool :=
  (List.range 4).map (fun i => r.pf0.getLsbD (4 + i)) ++ (List.range 8).map (fun j => r.pf1.getLsbD (7 - j))
    ++ (List.range 8).map (fun j => r.pf2.getLsbD j)

/-- The four moving drawables with their colours, in the order of PM_PRIORITY (60_exceptions.md R394, R367). -/
def movers (p : Params) (r : TiaRegs) (a : Active) : List (Bool × Byte) :=
  let c0 := if p.vdelRule = .self ∧ r.vdelp0.getLsbD 0 = true then r.colup0Old else r.colup0
  let c1 := if p.vdelRule = .self ∧ r.vdelp1.getLsbD 0 = true then r.colup1Old else r.colup1
  match p.pmPriority with
  | .pair => [(a.p0, c0), (a.m0, r.colup0), (a.p1, c1), (a.m1, r.colup1)]
  | .playersFirst => [(a.p0, c0), (a.p1, c1), (a.m0, r.colup0), (a.m1, r.colup1)]

/-- The playfield and ball as one layer, with its colour in column `x` (60_exceptions.md R382, R394). -/
def fieldLayer (p : Params) (r : TiaRegs) (a : Active) (x : Nat) : Bool × Byte :=
  let pf := if r.ctrlpf.getLsbD 1 = true then (if x < 80 then r.colup0 else r.colup1) else r.colupf
  let bl := if p.vdelRule = .self ∧ r.vdelbl.getLsbD 0 = true then r.colupfOld else r.colupf
  (a.pf || a.bl, if a.pf = true then pf else bl)

/-- All layers, the winning one first (60_exceptions.md R394). -/
def layers (p : Params) (r : TiaRegs) (a : Active) (x : Nat) : List (Bool × Byte) :=
  if r.ctrlpf.getLsbD 2 = true then fieldLayer p r a x :: movers p r a else movers p r a ++ [fieldLayer p r a x]

/-- The write registers of the table in 60_exceptions.md R341, each with its mask, a strobe's being 0: the register of offset
k is entry k, from $00 to $2C, and $2D to $3F have none. -/
def writeRegisters : List (TiaReg × Byte) :=
  [(.vsync, 0x02), (.vblank, 0xC2), (.wsync, 0), (.rsync, 0),
   (.nusiz0, 0x37), (.nusiz1, 0x37), (.colup0, 0xFE), (.colup1, 0xFE), (.colupf, 0xFE), (.colubk, 0xFE),
   (.ctrlpf, 0x37), (.refp0, 0x08), (.refp1, 0x08), (.pf0, 0xF0), (.pf1, 0xFF), (.pf2, 0xFF),
   (.resp0, 0), (.resp1, 0), (.resm0, 0), (.resm1, 0), (.resbl, 0),
   (.audc0, 0x0F), (.audc1, 0x0F), (.audf0, 0x1F), (.audf1, 0x1F), (.audv0, 0x0F), (.audv1, 0x0F),
   (.grp0, 0xFF), (.grp1, 0xFF), (.enam0, 0x02), (.enam1, 0x02), (.enabl, 0x02),
   (.hmp0, 0xF0), (.hmp1, 0xF0), (.hmm0, 0xF0), (.hmm1, 0xF0), (.hmbl, 0xF0),
   (.vdelp0, 0x01), (.vdelp1, 0x01), (.vdelbl, 0x01), (.resmp0, 0x02), (.resmp1, 0x02),
   (.hmove, 0), (.hmclr, 0), (.cxclr, 0)]

/-- The motion registers, which HMCLR clears (60_exceptions.md R373). -/
def motionRegs : List TiaReg := [.hmp0, .hmp1, .hmm0, .hmm1, .hmbl]

/-- The registers whose writes copy into old slots (60_exceptions.md R368). -/
def delayedRegs : List TiaReg := [.grp0, .grp1, .enabl, .colup0, .colup1, .colupf]

end Sys2Proof.Claims

open Sys2Proof Sys2Proof.Machine Sys2Proof.Claims

/-! Encoding and decoding. -/

/-- 30_encoding.md R100 to R106: every well-formed instruction, with every operand, is read back from its bytes. -/
def Obligations.DecodeReadsBackEveryEncoding : Prop :=
  ∀ (i : Instr) (rest : List Byte), i.wf = true → decode (encode i ++ rest) = .ok i rest

/-- 30_encoding.md R101, R106: the decoder answers an instruction exactly where the bytes reach the length its opcode
gives, and then that instruction is well-formed and the bytes are its encoding and no other's. -/
def Obligations.EveryByteStringHasOneReading : Prop :=
  (∀ (bytes rest : List Byte) (i : Instr), decode bytes = .ok i rest → i.wf = true ∧ bytes = encode i ++ rest)
    ∧ ∀ (op : Byte) (rest : List Byte),
      (∃ i r, decode (op :: rest) = .ok i r) ↔ instrLength op ≤ rest.length + 1

/-- 30_encoding.md R106, R110: a byte decodes as undocumented exactly where R110 lists it. -/
def Obligations.UnlistedBytesAreUndocumented : Prop :=
  ∀ (op : Byte) (rest : List Byte), decode (op :: rest) = .ok (.unimpl op) rest ↔ op ∈ undocumentedBytes

/-- 30_encoding.md R104: one word or more of each family, written out from the opcode map. -/
def Obligations.WrittenOutWordsDecode : Prop :=
  decode [0xA9, 0x42] = .ok (.ldaImm 0x42) []
    ∧ decode [0xB6, 0x07] = .ok (.ldxZpy 0x07) []
    ∧ decode [0x8D, 0x82, 0x02] = .ok (.staAbs 0x0282) []
    ∧ decode [0xBA] = .ok .tsx []
    ∧ decode [0x7D, 0x34, 0x12] = .ok (.adcAbsx 0x1234) []
    ∧ decode [0x2C, 0x07, 0x00] = .ok (.bitAbs 0x0007) []
    ∧ decode [0x56, 0x80] = .ok (.lsrZpx 0x80) []
    ∧ decode [0xCE, 0x80, 0x00] = .ok (.decAbs 0x0080) []
    ∧ decode [0xD0, 0xFE] = .ok (.bne 0xFE) []
    ∧ decode [0x6C, 0xFC, 0xFF] = .ok (.jmpInd 0xFFFC) []
    ∧ decode [0x20, 0x12, 0xF0] = .ok (.jsr 0xF012) []
    ∧ decode [0x00, 0x55] = .ok (.brk 0x55) []
    ∧ decode [0x28] = .ok .plp []
    ∧ decode [0xB8] = .ok .clv []
    ∧ decode [0x02] = .ok (.unimpl 0x02) []
    ∧ decode [0x4C, 0x00] = .truncated 0x4C

/-! Steps. -/

/-- 60_exceptions.md R411, 40_load_store.md R132: in a running machine with no host action waiting, a step samples the
inputs, fetches the instruction's bytes one cycle each with PC + 1, and is `exec` of what they decode to; JSR's high byte
is fetched by its last cycle, after its pushes (43_control_transfer.md R250). -/
def Obligations.StepRunsTheDecodedInstruction : Prop :=
  ∀ s : State, s.running = true → s.host = [] →
    (∀ (n : Nat) (i : Instr), mnemonic i ≠ .jsr →
      decode (fetchBytes n (sampleInputs s.inputs s)).1 = .ok i [] →
      step s = exec i (fetchBytes n (sampleInputs s.inputs s)).2)
    ∧ ∀ low : Byte, (fetchBytes 2 (sampleInputs s.inputs s)).1 = [0x20, low] →
      let t := (fetchBytes 2 (sampleInputs s.inputs s)).2
      let pushed := pushPc (dummyRead (stackAddr t.cpu.s) t)
      step s = exec (.jsr (word (readCycle pushed.cpu.pc pushed).1 low)) t

/-- 60_exceptions.md R330, R387, R411: the inputs of a CPU step are sampled before it, those of a waiting sample where there
is one, and the fire-button latches follow: AND with FIRE while VBLANK bit 6 = 1, held at 1 while it is 0. That a step with
no action waiting samples the last vector again is the model's choice (log 18). -/
def Obligations.InputsAreSampledBeforeEachStep : Prop :=
  ∀ (s : State) (i : Inputs) (rest : List HostEvent), s.running = true →
    (s.host = .sample i :: rest ∨ (s.host = [] ∧ rest = [] ∧ i = s.inputs)) →
    let latching := s.tia.regs.vblank.getLsbD 6
    step s = runInstruction { s with
      host := rest
      inputs := i
      tia := { s.tia with
        latch4 := if latching = true then s.tia.latch4 && i.fire0 else true
        latch5 := if latching = true then s.tia.latch5 && i.fire1 else true } }

/-- 60_exceptions.md R300, 30_encoding.md R110: an undocumented opcode stops the machine after its fetch cycle, with the
record of the opcode, its address and the cycle count, and no other change. -/
def Obligations.UndocumentedOpcodeStopsTheMachine : Prop :=
  (∀ (op : Byte) (s : State), exec (.unimpl op) s =
    .fault (.unimplementedOpcode ⟨op, s.cpu.pc - 1, s.cycles⟩ { s with fault := some ⟨op, s.cpu.pc - 1, s.cycles⟩ }))
  ∧ ∀ s : State, s.running = true → s.host = [] →
    let f := fetchByte (sampleInputs s.inputs s)
    f.1 ∈ undocumentedBytes →
    step s = .fault (.unimplementedOpcode ⟨f.1, s.cpu.pc, f.2.cycles⟩
      { f.2 with fault := some ⟨f.1, s.cpu.pc, f.2.cycles⟩ })

/-- 60_exceptions.md R300, R304, 70_reset_and_hazards.md R433: in the fault state no CPU step runs, with or without a sample,
and with a refused cartridge neither a step, with or without a sample, nor a reset does; nothing changes, but that the sample
or the request is spent (the model's choice, log 20). -/
def Obligations.StoppedMachineStaysStopped : Prop :=
  (∀ (s : State) (info : FaultInfo), s.cart.valid = true → s.fault = some info →
    (s.host = [] → step s = .fault (.unimplementedOpcode info s))
      ∧ ∀ i rest, s.host = .sample i :: rest → step s = .fault (.unimplementedOpcode info { s with host := rest }))
  ∧ ∀ s : State, s.cart.valid = false →
    let refused := fun t : State => Fault.invalidCartridge s.cart.rom.size s.cart.mapper t
    (s.host = [] → step s = .fault (refused s))
      ∧ (∀ i rest, s.host = .sample i :: rest → step s = .fault (refused { s with host := rest }))
      ∧ ∀ rest, s.host = .reset :: rest → step s = .fault (refused { s with host := rest })

/-- 70_reset_and_hazards.md R430 to R434: a host reset, taken between steps, consumes no cycle and sets what the rule lists;
that everything R431 draws keeps its value, and that the inputs stay and cycles count from 0, is the model's choice (log 19), as is
that the request comes off a list of host actions (log 18). -/
def Obligations.HostResetReinitialises : Prop :=
  ∀ (s : State) (rest : List HostEvent), s.cart.valid = true → s.host = .reset :: rest →
    ∃ t, step s = .next t
      ∧ t.cpu = { s.cpu with
          pc := word (t.cart.peek 0xFFD) (t.cart.peek 0xFFC)
          p := { s.cpu.p with i := true } }
      ∧ t.fault = none ∧ t.ram = s.ram
      ∧ t.tia = { s.tia with
          hcount := 0
          vcount := 0
          waiting := false
          motion := { active := false, t := s.tia.motion.t, ext := false }
          line := []
          raster := [] }
      ∧ t.riot = { s.riot with orA := 0, ddrA := 0, orB := 0, ddrB := 0 }
      ∧ t.cart.rom = s.cart.rom ∧ t.cart.mapper = s.cart.mapper ∧ (s.cart.mapper = .none → t.cart.bank = 0)
      ∧ t.cycles = 0 ∧ t.host = rest ∧ t.inputs = s.inputs ∧ t.params = s.params

/-- 60_exceptions.md R304, 20_memory.md R70: a supplied image is accepted or refused by the mapper's size test, and an
accepted one powers up at its own reset vector. -/
def Obligations.CartridgeIsCheckedAtLoad : Prop :=
  ∀ (s : State) (rom : Rom) (id : MapperId) (rest : List HostEvent), s.host = .load rom id :: rest →
    (({ rom := rom, mapper := id, bank := 0 : Cart }.valid = true →
      ∃ t, step s = .next t ∧ t.cart.rom = rom ∧ t.cart.mapper = id ∧ t.fault = none
        ∧ t.cpu.pc = word (t.cart.peek 0xFFD) (t.cart.peek 0xFFC) ∧ t.tia.hcount = 0 ∧ t.tia.vcount = 0)
    ∧ ({ rom := rom, mapper := id, bank := 0 : Cart }.valid = false →
      ∃ t, step s = .fault (.invalidCartridge rom.size id t)))
    ∧ ({ rom := rom, mapper := .none, bank := 0 : Cart }.valid = true ↔ rom.size = 2048 ∨ rom.size = 4096)
    ∧ ({ rom := rom, mapper := .f8, bank := 0 : Cart }.valid = true ↔ rom.size = 8192)
    ∧ ({ rom := rom, mapper := .f6, bank := 0 : Cart }.valid = true ↔ rom.size = 16384)
    ∧ ({ rom := rom, mapper := .f4, bank := 0 : Cart }.valid = true ↔ rom.size = 32768)

/-- 10_state.md R45, 70_reset_and_hazards.md R430: the reset values the spec gives; the blank cartridge, whose reset vector
is $0000, is the model's (log 10). -/
def Obligations.ResetHoldsTheGivenValues : Prop :=
  let s := State.reset
  s.cpu.pc = word (s.cart.peek 0xFFD) (s.cart.peek 0xFFC) ∧ s.cpu.p.i = true ∧ s.fault = none
    ∧ s.tia.hcount = 0 ∧ s.tia.vcount = 0 ∧ s.tia.waiting = false ∧ s.tia.motion.active = false
    ∧ s.tia.motion.ext = false ∧ s.tia.line = [] ∧ s.tia.raster = [] ∧ s.cart.bank = 0
    ∧ s.riot.orA = 0 ∧ s.riot.ddrA = 0 ∧ s.riot.orB = 0 ∧ s.riot.ddrB = 0

/-- The machine's invariant holds at reset; that the drawn state is in range there rests on the values of logs 5 to 8. -/
def Obligations.InvariantHoldsAtReset : Prop := MachineInvariant State.reset

/-! The bus. -/

/-- 20_memory.md R61: exactly one row of the decode table selects each bus address, and which one A12, A7 and A9 decide. -/
def Obligations.DecodeTableCoversEachAddressOnce : Prop :=
  ∀ ba : BitVec 13, (busTable.filter fun r => r.hits ba).length = 1
    ∧ deviceAt ba = if ba.getLsbD 12 then .cartridge else if !ba.getLsbD 7 then .tia else if !ba.getLsbD 9 then .ram else .riot

/-- 20_memory.md R60: two CPU addresses that agree modulo $2000 are one address to every access. -/
def Obligations.BusDropsHighAddressBits : Prop :=
  ∀ (a b : Word) (v : Byte) (s : State), a.toNat % 8192 = b.toNat % 8192 →
    readCycle a s = readCycle b s ∧ writeCycle a v s = writeCycle b v s

/-- 20_memory.md R64, R80, R83: an access of RAM reads or writes the byte at its offset, the address modulo 128, and changes
nothing else; a read cycle, held or not, returns the byte most recently written there, and a fetch is such a read. -/
def Obligations.RamReadsBackTheLastWrite : Prop :=
  ∀ (a b : Word) (v : Byte) (s : State), isRam b = true → s.ram.wf = true →
    let byte := if isRam a = true ∧ a.toNat % 128 = b.toNat % 128 then v else s.ram.read (b.toNat % 128)
    busRead b s = (s.ram.read (b.toNat % 128), s)
      ∧ (isRam a = true → busWrite a v s = { s with ram := s.ram.write (a.toNat % 128) v })
      ∧ (readCycle b s).1 = s.ram.read (b.toNat % 128) ∧ (readCycle b s).2.ram = s.ram
      ∧ (readCycle b (writeCycle a v s)).1 = byte
      ∧ (s.cpu.pc = b → (fetchByte (writeCycle a v s)).1 = byte ∧ (fetchByte s).2.cpu.pc = b + 1)

/-- 20_memory.md R70, R71, R72: under mapper `none` a cartridge read returns image[o mod len] and no access has an effect; under
F8, F6 and F4 a read returns image[b * 4096 + o] and any access at hotspot k selects bank k, after the access; under any
mapper an access changes nothing but the bank. -/
def Obligations.CartridgeReadsItsImage : Prop :=
  ∀ (a : Word) (v : Byte) (s : State), isCart a = true →
    let o := a.toNat % 4096
    (s.cart.mapper = .none → busRead a s = (Rom.read s.cart.rom (o % s.cart.rom.size), s) ∧ busWrite a v s = s)
      ∧ (∀ first n : Nat, (s.cart.mapper, first, n) ∈ [(MapperId.f8, 0xFF8, 2), (.f6, 0xFF6, 4), (.f4, 0xFF4, 8)] →
        let bank := if first ≤ o ∧ o < first + n then o - first else s.cart.bank
        busRead a s = (Rom.read s.cart.rom (s.cart.bank * 4096 + o), { s with cart := { s.cart with bank := bank } })
          ∧ busWrite a v s = { s with cart := { s.cart with bank := bank } })
      ∧ (∃ bank, busWrite a v s = { s with cart := { s.cart with bank := bank } })
      ∧ ∃ bank, (busRead a s).2 = { s with cart := { s.cart with bank := bank } }

/-- 70_reset_and_hazards.md R430, 20_memory.md R70, 60_exceptions.md R304: a step never changes the parameters, and only a load
changes the image and its mapper. That a step takes the first waiting host action off a list, and no other, is the model's
choice (log 18). -/
def Obligations.StepsKeepImageAndParameters : Prop :=
  ∀ s t : State, step s = .next t →
    t.params = s.params ∧ t.host = s.host.tail
      ∧ ((∀ rom id rest, s.host ≠ .load rom id :: rest) → t.cart.rom = s.cart.rom ∧ t.cart.mapper = s.cart.mapper)

/-! Addressing modes and the instructions, family by family. -/

/-- 40_load_store.md R130, R136 to R142: the effective address of each mode, in numbers, and the cycles that form it; the
read class (`always` false) makes the fix-up cycle on a page crossing only. -/
def Obligations.EffectiveAddresses : Prop :=
  ∀ (always : Bool) (s : State),
    let x := s.cpu.x.toNat
    let y := s.cpu.y.toNat
    let fixup := fun (base : Word) (idx : Nat) (u : State) =>
      if always = true ∨ 255 < base.toNat % 256 + idx then
        dummyRead (addr (base.toNat / 256 * 256 + (base.toNat % 256 + idx) % 256)) u
      else u
    (∀ b, effAddr always (.zp b) s = (addr b.toNat, s))
      ∧ (∀ b, effAddr always (.zpx b) s = (addr ((b.toNat + x) % 256), dummyRead (addr b.toNat) s))
      ∧ (∀ b, effAddr always (.zpy b) s = (addr ((b.toNat + y) % 256), dummyRead (addr b.toNat) s))
      ∧ (∀ w, effAddr always (.abs w) s = (w, s))
      ∧ (∀ w, effAddr always (.absx w) s = (addr (w.toNat + x), fixup w x s))
      ∧ (∀ w, effAddr always (.absy w) s = (addr (w.toNat + y), fixup w y s))
      ∧ (∀ b, let lo := readCycle (addr ((b.toNat + x) % 256)) (dummyRead (addr b.toNat) s)
        let hi := readCycle (addr ((b.toNat + x + 1) % 256)) lo.2
        effAddr always (.indx b) s = (word hi.1 lo.1, hi.2))
      ∧ ∀ b, let lo := readCycle (addr b.toNat) s
        let hi := readCycle (addr ((b.toNat + 1) % 256)) lo.2
        effAddr always (.indy b) s = (addr ((word hi.1 lo.1).toNat + y), fixup (word hi.1 lo.1) y hi.2)

/-- 40_load_store.md R150, R151, R152: LDA, LDX and LDY in every mode. -/
def Obligations.LoadsCopyTheOperand : Prop :=
  (∀ v, ReadsTo 0xA9 (.ldaImm v) (.imm v) lda)
    ∧ (∀ b, ReadsTo 0xA5 (.ldaZp b) (.mem (.zp b)) lda)
    ∧ (∀ b, ReadsTo 0xB5 (.ldaZpx b) (.mem (.zpx b)) lda)
    ∧ (∀ w, ReadsTo 0xAD (.ldaAbs w) (.mem (.abs w)) lda)
    ∧ (∀ w, ReadsTo 0xBD (.ldaAbsx w) (.mem (.absx w)) lda)
    ∧ (∀ w, ReadsTo 0xB9 (.ldaAbsy w) (.mem (.absy w)) lda)
    ∧ (∀ b, ReadsTo 0xA1 (.ldaIndx b) (.mem (.indx b)) lda)
    ∧ (∀ b, ReadsTo 0xB1 (.ldaIndy b) (.mem (.indy b)) lda)
    ∧ (∀ v, ReadsTo 0xA2 (.ldxImm v) (.imm v) ldx)
    ∧ (∀ b, ReadsTo 0xA6 (.ldxZp b) (.mem (.zp b)) ldx)
    ∧ (∀ b, ReadsTo 0xB6 (.ldxZpy b) (.mem (.zpy b)) ldx)
    ∧ (∀ w, ReadsTo 0xAE (.ldxAbs w) (.mem (.abs w)) ldx)
    ∧ (∀ w, ReadsTo 0xBE (.ldxAbsy w) (.mem (.absy w)) ldx)
    ∧ (∀ v, ReadsTo 0xA0 (.ldyImm v) (.imm v) ldy)
    ∧ (∀ b, ReadsTo 0xA4 (.ldyZp b) (.mem (.zp b)) ldy)
    ∧ (∀ b, ReadsTo 0xB4 (.ldyZpx b) (.mem (.zpx b)) ldy)
    ∧ (∀ w, ReadsTo 0xAC (.ldyAbs w) (.mem (.abs w)) ldy)
    ∧ (∀ w, ReadsTo 0xBC (.ldyAbsx w) (.mem (.absx w)) ldy)

/-- 40_load_store.md R153, R154, R155: STA, STX and STY in every mode. -/
def Obligations.StoresWriteTheRegister : Prop :=
  (∀ b, WritesTo 0x85 (.staZp b) (.zp b) Cpu.a)
    ∧ (∀ b, WritesTo 0x95 (.staZpx b) (.zpx b) Cpu.a)
    ∧ (∀ w, WritesTo 0x8D (.staAbs w) (.abs w) Cpu.a)
    ∧ (∀ w, WritesTo 0x9D (.staAbsx w) (.absx w) Cpu.a)
    ∧ (∀ w, WritesTo 0x99 (.staAbsy w) (.absy w) Cpu.a)
    ∧ (∀ b, WritesTo 0x81 (.staIndx b) (.indx b) Cpu.a)
    ∧ (∀ b, WritesTo 0x91 (.staIndy b) (.indy b) Cpu.a)
    ∧ (∀ b, WritesTo 0x86 (.stxZp b) (.zp b) Cpu.x)
    ∧ (∀ b, WritesTo 0x96 (.stxZpy b) (.zpy b) Cpu.x)
    ∧ (∀ w, WritesTo 0x8E (.stxAbs w) (.abs w) Cpu.x)
    ∧ (∀ b, WritesTo 0x84 (.styZp b) (.zp b) Cpu.y)
    ∧ (∀ b, WritesTo 0x94 (.styZpx b) (.zpx b) Cpu.y)
    ∧ (∀ w, WritesTo 0x8C (.styAbs w) (.abs w) Cpu.y)

/-- 40_load_store.md R156 to R161: the six transfers; TXS writes no flag. -/
def Obligations.TransfersCopyRegisters : Prop :=
  Implied 0xAA .tax (fun c => { c with x := c.a, p := nz c.p c.a })
    ∧ Implied 0xA8 .tay (fun c => { c with y := c.a, p := nz c.p c.a })
    ∧ Implied 0x8A .txa (fun c => { c with a := c.x, p := nz c.p c.x })
    ∧ Implied 0x98 .tya (fun c => { c with a := c.y, p := nz c.p c.y })
    ∧ Implied 0xBA .tsx (fun c => { c with x := c.s, p := nz c.p c.s })
    ∧ Implied 0x9A .txs (fun c => { c with s := c.x })

/-- 41_arith_logic.md R182, R184: ADC in every mode, binary and decimal. -/
def Obligations.AdcAddsWithCarry : Prop :=
  (∀ v, ReadsTo 0x69 (.adcImm v) (.imm v) Claims.adc)
    ∧ (∀ b, ReadsTo 0x65 (.adcZp b) (.mem (.zp b)) Claims.adc)
    ∧ (∀ b, ReadsTo 0x75 (.adcZpx b) (.mem (.zpx b)) Claims.adc)
    ∧ (∀ w, ReadsTo 0x6D (.adcAbs w) (.mem (.abs w)) Claims.adc)
    ∧ (∀ w, ReadsTo 0x7D (.adcAbsx w) (.mem (.absx w)) Claims.adc)
    ∧ (∀ w, ReadsTo 0x79 (.adcAbsy w) (.mem (.absy w)) Claims.adc)
    ∧ (∀ b, ReadsTo 0x61 (.adcIndx b) (.mem (.indx b)) Claims.adc)
    ∧ (∀ b, ReadsTo 0x71 (.adcIndy b) (.mem (.indy b)) Claims.adc)

/-- 41_arith_logic.md R183, R185: SBC in every mode, binary and decimal. -/
def Obligations.SbcSubtractsWithBorrow : Prop :=
  (∀ v, ReadsTo 0xE9 (.sbcImm v) (.imm v) Claims.sbc)
    ∧ (∀ b, ReadsTo 0xE5 (.sbcZp b) (.mem (.zp b)) Claims.sbc)
    ∧ (∀ b, ReadsTo 0xF5 (.sbcZpx b) (.mem (.zpx b)) Claims.sbc)
    ∧ (∀ w, ReadsTo 0xED (.sbcAbs w) (.mem (.abs w)) Claims.sbc)
    ∧ (∀ w, ReadsTo 0xFD (.sbcAbsx w) (.mem (.absx w)) Claims.sbc)
    ∧ (∀ w, ReadsTo 0xF9 (.sbcAbsy w) (.mem (.absy w)) Claims.sbc)
    ∧ (∀ b, ReadsTo 0xE1 (.sbcIndx b) (.mem (.indx b)) Claims.sbc)
    ∧ (∀ b, ReadsTo 0xF1 (.sbcIndy b) (.mem (.indy b)) Claims.sbc)

/-- 41_arith_logic.md R180: of the binary ADC and SBC, C is the carry out of bit 7 and the inverse of the borrow, V says that the
signed result is out of range, and the result is the exact one modulo 256. -/
def Obligations.CarryAndOverflowAreExact : Prop :=
  ∀ (p : Flags) (a m : Byte),
    let add := adcBinary p a m
    let sub := sbcBinary p a m
    let sum : Int := s8 a.toNat + s8 m.toNat + carryNat p.c
    let diff : Int := s8 a.toNat - s8 m.toNat - (1 - carryNat p.c)
    add.1.toNat = (a.toNat + m.toNat + carryNat p.c) % 256
      ∧ add.2.c = decide (255 < a.toNat + m.toNat + carryNat p.c)
      ∧ add.2.v = decide (sum < -128 ∨ 127 < sum)
      ∧ sub.1.toNat = (a.toNat + 255 + carryNat p.c - m.toNat) % 256
      ∧ sub.2.c = decide (m.toNat + (1 - carryNat p.c) ≤ a.toNat)
      ∧ sub.2.v = decide (diff < -128 ∨ 127 < diff)

/-- 41_arith_logic.md R182, R183: on bytes that are valid BCD, decimal ADC and SBC are addition and subtraction of two-digit
decimal numbers with carry and borrow. -/
def Obligations.DecimalArithmeticOnDigits : Prop :=
  ∀ (p : Flags) (x y : Nat), x < 100 → y < 100 →
    (adcDecimal p (bcd x) (bcd y)).1 = bcd ((x + y + carryNat p.c) % 100)
      ∧ (adcDecimal p (bcd x) (bcd y)).2.c = decide (100 ≤ x + y + carryNat p.c)
      ∧ (sbcDecimal p (bcd x) (bcd y)).1 = bcd ((x + 99 + carryNat p.c - y) % 100)
      ∧ (sbcDecimal p (bcd x) (bcd y)).2.c = decide (y + 1 ≤ x + carryNat p.c)

/-- 41_arith_logic.md R186, R187, R188: AND, ORA and EOR in every mode. -/
def Obligations.LogicCombinesWithA : Prop :=
  (∀ v, ReadsTo 0x29 (.andImm v) (.imm v) Claims.and)
    ∧ (∀ b, ReadsTo 0x25 (.andZp b) (.mem (.zp b)) Claims.and)
    ∧ (∀ b, ReadsTo 0x35 (.andZpx b) (.mem (.zpx b)) Claims.and)
    ∧ (∀ w, ReadsTo 0x2D (.andAbs w) (.mem (.abs w)) Claims.and)
    ∧ (∀ w, ReadsTo 0x3D (.andAbsx w) (.mem (.absx w)) Claims.and)
    ∧ (∀ w, ReadsTo 0x39 (.andAbsy w) (.mem (.absy w)) Claims.and)
    ∧ (∀ b, ReadsTo 0x21 (.andIndx b) (.mem (.indx b)) Claims.and)
    ∧ (∀ b, ReadsTo 0x31 (.andIndy b) (.mem (.indy b)) Claims.and)
    ∧ (∀ v, ReadsTo 0x09 (.oraImm v) (.imm v) ora)
    ∧ (∀ b, ReadsTo 0x05 (.oraZp b) (.mem (.zp b)) ora)
    ∧ (∀ b, ReadsTo 0x15 (.oraZpx b) (.mem (.zpx b)) ora)
    ∧ (∀ w, ReadsTo 0x0D (.oraAbs w) (.mem (.abs w)) ora)
    ∧ (∀ w, ReadsTo 0x1D (.oraAbsx w) (.mem (.absx w)) ora)
    ∧ (∀ w, ReadsTo 0x19 (.oraAbsy w) (.mem (.absy w)) ora)
    ∧ (∀ b, ReadsTo 0x01 (.oraIndx b) (.mem (.indx b)) ora)
    ∧ (∀ b, ReadsTo 0x11 (.oraIndy b) (.mem (.indy b)) ora)
    ∧ (∀ v, ReadsTo 0x49 (.eorImm v) (.imm v) eor)
    ∧ (∀ b, ReadsTo 0x45 (.eorZp b) (.mem (.zp b)) eor)
    ∧ (∀ b, ReadsTo 0x55 (.eorZpx b) (.mem (.zpx b)) eor)
    ∧ (∀ w, ReadsTo 0x4D (.eorAbs w) (.mem (.abs w)) eor)
    ∧ (∀ w, ReadsTo 0x5D (.eorAbsx w) (.mem (.absx w)) eor)
    ∧ (∀ w, ReadsTo 0x59 (.eorAbsy w) (.mem (.absy w)) eor)
    ∧ (∀ b, ReadsTo 0x41 (.eorIndx b) (.mem (.indx b)) eor)
    ∧ (∀ b, ReadsTo 0x51 (.eorIndy b) (.mem (.indy b)) eor)

/-- 41_arith_logic.md R189 to R192: CMP, CPX, CPY and BIT in every mode; only flags change. -/
def Obligations.ComparesAndBitSetFlags : Prop :=
  (∀ v, ReadsTo 0xC9 (.cmpImm v) (.imm v) Claims.cmp)
    ∧ (∀ b, ReadsTo 0xC5 (.cmpZp b) (.mem (.zp b)) Claims.cmp)
    ∧ (∀ b, ReadsTo 0xD5 (.cmpZpx b) (.mem (.zpx b)) Claims.cmp)
    ∧ (∀ w, ReadsTo 0xCD (.cmpAbs w) (.mem (.abs w)) Claims.cmp)
    ∧ (∀ w, ReadsTo 0xDD (.cmpAbsx w) (.mem (.absx w)) Claims.cmp)
    ∧ (∀ w, ReadsTo 0xD9 (.cmpAbsy w) (.mem (.absy w)) Claims.cmp)
    ∧ (∀ b, ReadsTo 0xC1 (.cmpIndx b) (.mem (.indx b)) Claims.cmp)
    ∧ (∀ b, ReadsTo 0xD1 (.cmpIndy b) (.mem (.indy b)) Claims.cmp)
    ∧ (∀ v, ReadsTo 0xE0 (.cpxImm v) (.imm v) cpx)
    ∧ (∀ b, ReadsTo 0xE4 (.cpxZp b) (.mem (.zp b)) cpx)
    ∧ (∀ w, ReadsTo 0xEC (.cpxAbs w) (.mem (.abs w)) cpx)
    ∧ (∀ v, ReadsTo 0xC0 (.cpyImm v) (.imm v) cpy)
    ∧ (∀ b, ReadsTo 0xC4 (.cpyZp b) (.mem (.zp b)) cpy)
    ∧ (∀ w, ReadsTo 0xCC (.cpyAbs w) (.mem (.abs w)) cpy)
    ∧ (∀ b, ReadsTo 0x24 (.bitZp b) (.mem (.zp b)) Claims.bit)
    ∧ (∀ w, ReadsTo 0x2C (.bitAbs w) (.mem (.abs w)) Claims.bit)

/-- 42_shift_incdec.md R220 to R223, 40_load_store.md R143: the shifts and rotates, on A and on memory. -/
def Obligations.ShiftsAndRotates : Prop :=
  ShiftsA 0x0A .aslAcc asl
    ∧ (∀ b, Modifies 0x06 (.aslZp b) (.zp b) asl)
    ∧ (∀ b, Modifies 0x16 (.aslZpx b) (.zpx b) asl)
    ∧ (∀ w, Modifies 0x0E (.aslAbs w) (.abs w) asl)
    ∧ (∀ w, Modifies 0x1E (.aslAbsx w) (.absx w) asl)
    ∧ ShiftsA 0x4A .lsrAcc lsr
    ∧ (∀ b, Modifies 0x46 (.lsrZp b) (.zp b) lsr)
    ∧ (∀ b, Modifies 0x56 (.lsrZpx b) (.zpx b) lsr)
    ∧ (∀ w, Modifies 0x4E (.lsrAbs w) (.abs w) lsr)
    ∧ (∀ w, Modifies 0x5E (.lsrAbsx w) (.absx w) lsr)
    ∧ ShiftsA 0x2A .rolAcc rol
    ∧ (∀ b, Modifies 0x26 (.rolZp b) (.zp b) rol)
    ∧ (∀ b, Modifies 0x36 (.rolZpx b) (.zpx b) rol)
    ∧ (∀ w, Modifies 0x2E (.rolAbs w) (.abs w) rol)
    ∧ (∀ w, Modifies 0x3E (.rolAbsx w) (.absx w) rol)
    ∧ ShiftsA 0x6A .rorAcc ror
    ∧ (∀ b, Modifies 0x66 (.rorZp b) (.zp b) ror)
    ∧ (∀ b, Modifies 0x76 (.rorZpx b) (.zpx b) ror)
    ∧ (∀ w, Modifies 0x6E (.rorAbs w) (.abs w) ror)
    ∧ (∀ w, Modifies 0x7E (.rorAbsx w) (.absx w) ror)

/-- 42_shift_incdec.md R224 to R229: increments and decrements of memory and of X and Y. -/
def Obligations.IncrementsAndDecrements : Prop :=
  (∀ b, Modifies 0xE6 (.incZp b) (.zp b) inc)
    ∧ (∀ b, Modifies 0xF6 (.incZpx b) (.zpx b) inc)
    ∧ (∀ w, Modifies 0xEE (.incAbs w) (.abs w) inc)
    ∧ (∀ w, Modifies 0xFE (.incAbsx w) (.absx w) inc)
    ∧ (∀ b, Modifies 0xC6 (.decZp b) (.zp b) dec)
    ∧ (∀ b, Modifies 0xD6 (.decZpx b) (.zpx b) dec)
    ∧ (∀ w, Modifies 0xCE (.decAbs w) (.abs w) dec)
    ∧ (∀ w, Modifies 0xDE (.decAbsx w) (.absx w) dec)
    ∧ Implied 0xE8 .inx (fun c => { c with x := (inc c.p c.x).1, p := (inc c.p c.x).2 })
    ∧ Implied 0xC8 .iny (fun c => { c with y := (inc c.p c.y).1, p := (inc c.p c.y).2 })
    ∧ Implied 0xCA .dex (fun c => { c with x := (dec c.p c.x).1, p := (dec c.p c.x).2 })
    ∧ Implied 0x88 .dey (fun c => { c with y := (dec c.p c.y).1, p := (dec c.p c.y).2 })

/-- 43_control_transfer.md R240 to R248: the eight branches. -/
def Obligations.BranchesFollowTheirFlag : Prop :=
  BranchesOn 0x10 .bpl (fun p => !p.n)
    ∧ BranchesOn 0x30 .bmi (fun p => p.n)
    ∧ BranchesOn 0x50 .bvc (fun p => !p.v)
    ∧ BranchesOn 0x70 .bvs (fun p => p.v)
    ∧ BranchesOn 0x90 .bcc (fun p => !p.c)
    ∧ BranchesOn 0xB0 .bcs (fun p => p.c)
    ∧ BranchesOn 0xD0 .bne (fun p => !p.z)
    ∧ BranchesOn 0xF0 .beq (fun p => p.z)

/-- 43_control_transfer.md R249: JMP; the indirect pointer's high byte comes from the same page as its low byte. -/
def Obligations.JumpsSetPc : Prop :=
  (∀ w, HasOpcode 0x4C (.jmpAbs w) ∧ ∀ s, exec (.jmpAbs w) s = .next { s with cpu := { s.cpu with pc := w } })
    ∧ ∀ w, HasOpcode 0x6C (.jmpInd w) ∧ ∀ s,
      let lo := readCycle w s
      let hi := readCycle (addr (w.toNat / 256 * 256 + (w.toNat % 256 + 1) % 256)) lo.2
      exec (.jmpInd w) s = .next { hi.2 with cpu := { s.cpu with pc := word hi.1 lo.1 } }

/-- 43_control_transfer.md R250, R251: JSR, from the state in which PC is the address of its last byte, whose operand's high
byte the last cycle reads, after the pushes (log 16); and RTS. -/
def Obligations.CallsPushAndReturnsPull : Prop :=
  (∀ (w : Word) (s : State), HasOpcode 0x20 (.jsr w) ∧
    let s3 := dummyRead (stackAddr s.cpu.s) s
    let s4 := writeCycle (stackAddr s.cpu.s) (BitVec.ofNat 8 (s.cpu.pc.toNat / 256)) s3
    let s5 := writeCycle (stackAddr (s.cpu.s - 1)) (BitVec.ofNat 8 s.cpu.pc.toNat) s4
    exec (.jsr w) s = .next { dummyRead s.cpu.pc s5 with cpu := { s.cpu with s := s.cpu.s - 2, pc := w } })
  ∧ (∀ (low : Byte) (before : State), (fetchBytes 2 before).1 = [0x20, low] →
    let s := (fetchBytes 2 before).2
    let s3 := dummyRead (stackAddr s.cpu.s) s
    let s4 := writeCycle (stackAddr s.cpu.s) (BitVec.ofNat 8 (s.cpu.pc.toNat / 256)) s3
    let s5 := writeCycle (stackAddr (s.cpu.s - 1)) (BitVec.ofNat 8 s.cpu.pc.toNat) s4
    fetchInstr before = (.jsr (word (readCycle s.cpu.pc s5).1 low), s))
  ∧ HasOpcode 0x60 .rts ∧ ∀ s : State,
    let s3 := dummyRead (stackAddr s.cpu.s) (dummyRead s.cpu.pc s)
    let lo := readCycle (stackAddr (s.cpu.s + 1)) s3
    let hi := readCycle (stackAddr (s.cpu.s + 2)) lo.2
    exec .rts s = .next { dummyRead (word hi.1 lo.1) hi.2 with
      cpu := { s.cpu with s := s.cpu.s + 2, pc := addr ((word hi.1 lo.1).toNat + 1) } }

/-- 43_control_transfer.md R255, 60_exceptions.md R307: BRK enters the trap, from the state in which PC is past the padding byte. -/
def Obligations.BrkEntersTheTrap : Prop :=
  ∀ (pad : Byte) (s : State), HasOpcode 0x00 (.brk pad) ∧
    let s3 := writeCycle (stackAddr s.cpu.s) (BitVec.ofNat 8 (s.cpu.pc.toNat / 256)) s
    let s4 := writeCycle (stackAddr (s.cpu.s - 1)) (BitVec.ofNat 8 s.cpu.pc.toNat) s3
    let s5 := writeCycle (stackAddr (s.cpu.s - 2)) (s.cpu.p.pack true) s4
    let lo := readCycle 0xFFFE s5
    let hi := readCycle 0xFFFF lo.2
    exec (.brk pad) s = .next { hi.2 with
      cpu := { s.cpu with s := s.cpu.s - 3, p := { s.cpu.p with i := true }, pc := word hi.1 lo.1 } }

/-- 43_control_transfer.md R256: RTI restores the flags and the address the trap saved. -/
def Obligations.RtiRestoresFlagsAndPc : Prop :=
  HasOpcode 0x40 .rti ∧ ∀ s : State,
    let s3 := dummyRead (stackAddr s.cpu.s) (dummyRead s.cpu.pc s)
    let p := readCycle (stackAddr (s.cpu.s + 1)) s3
    let lo := readCycle (stackAddr (s.cpu.s + 2)) p.2
    let hi := readCycle (stackAddr (s.cpu.s + 3)) lo.2
    exec .rti s = .next { hi.2 with
      cpu := { s.cpu with s := s.cpu.s + 3, p := Flags.unpack p.1, pc := word hi.1 lo.1 } }

/-- 44_stack_flags_system.md R270, R271, 10_state.md R34: PHA and PHP; the byte PHP pushes, bit by bit. -/
def Obligations.PushesStoreBelowTheStack : Prop :=
  HasOpcode 0x48 .pha ∧ HasOpcode 0x08 .php
    ∧ (∀ s : State, exec .pha s =
      .next { writeCycle (stackAddr s.cpu.s) s.cpu.a (dummyRead s.cpu.pc s) with
        cpu := { s.cpu with s := s.cpu.s - 1 } })
    ∧ ∀ (s : State) (b : Byte),
      b.getLsbD 7 = s.cpu.p.n → b.getLsbD 6 = s.cpu.p.v → b.getLsbD 5 = true → b.getLsbD 4 = true →
      b.getLsbD 3 = s.cpu.p.d → b.getLsbD 2 = s.cpu.p.i → b.getLsbD 1 = s.cpu.p.z → b.getLsbD 0 = s.cpu.p.c →
      exec .php s =
        .next { writeCycle (stackAddr s.cpu.s) b (dummyRead s.cpu.pc s) with cpu := { s.cpu with s := s.cpu.s - 1 } }

/-- 44_stack_flags_system.md R272, R273: PLA and PLP. -/
def Obligations.PullsReadAboveTheStack : Prop :=
  HasOpcode 0x68 .pla ∧ HasOpcode 0x28 .plp ∧ ∀ s : State,
    let v := readCycle (stackAddr (s.cpu.s + 1)) (dummyRead (stackAddr s.cpu.s) (dummyRead s.cpu.pc s))
    exec .pla s = .next { v.2 with cpu := { s.cpu with s := s.cpu.s + 1, a := v.1, p := nz s.cpu.p v.1 } }
      ∧ exec .plp s = .next { v.2 with
        cpu := { s.cpu with
          s := s.cpu.s + 1
          p :=
            { n := v.1.getLsbD 7
              v := v.1.getLsbD 6
              d := v.1.getLsbD 3
              i := v.1.getLsbD 2
              z := v.1.getLsbD 1
              c := v.1.getLsbD 0 } } }

/-- 44_stack_flags_system.md R274 to R281: the flag instructions change one flag each, NOP none. -/
def Obligations.FlagInstructionsAndNop : Prop :=
  Implied 0x18 .clc (fun c => { c with p := { c.p with c := false } })
    ∧ Implied 0x38 .sec (fun c => { c with p := { c.p with c := true } })
    ∧ Implied 0x58 .cli (fun c => { c with p := { c.p with i := false } })
    ∧ Implied 0x78 .sei (fun c => { c with p := { c.p with i := true } })
    ∧ Implied 0xD8 .cld (fun c => { c with p := { c.p with d := false } })
    ∧ Implied 0xF8 .sed (fun c => { c with p := { c.p with d := true } })
    ∧ Implied 0xB8 .clv (fun c => { c with p := { c.p with v := false } })
    ∧ Implied 0xEA .nop (fun c => c)

/-- 43_control_transfer.md R250, R251, R255, R256: with the stack in RAM, an RTS that finds S and RAM as a JSR left them returns to
the byte after the JSR, and an RTI that finds them as a BRK left them restores PC and all six flags. -/
def Obligations.ReturnsUndoCallsAndTraps : Prop :=
  (∀ (w : Word) (s t u : State), 0x81 ≤ s.cpu.s.toNat → s.ram.wf = true → exec (.jsr w) s = .next t →
    u.cpu.s = t.cpu.s → u.ram = t.ram →
    ∃ v, exec .rts u = .next v ∧ v.cpu.pc = s.cpu.pc + 1 ∧ v.cpu.s = s.cpu.s ∧ v.ram = t.ram)
  ∧ ∀ (pad : Byte) (s t u : State), 0x82 ≤ s.cpu.s.toNat → s.ram.wf = true → exec (.brk pad) s = .next t →
    u.cpu.s = t.cpu.s → u.ram = t.ram →
    ∃ v, exec .rti u = .next v ∧ v.cpu.pc = s.cpu.pc ∧ v.cpu.p = s.cpu.p ∧ v.cpu.s = s.cpu.s ∧ v.ram = t.ram

/-! What instructions leave alone. -/

/-- 60_exceptions.md R301, R310: every documented instruction completes, from every state. -/
def Obligations.EveryDocumentedInstructionCompletes : Prop :=
  ∀ (i : Instr) (s : State), mnemonic i ≠ .unimpl → ∃ t, exec i s = .next t

/-- 40_load_store.md R131, R143, 20_memory.md R64, R72: the frame of all instructions. A byte of RAM changes only where an
address the instruction stores to designates it; the TIA's write registers change only by a store to the TIA, the RIOT's
port registers and divisor only by a store to the RIOT; the image, mapper, inputs, fault state, host actions and parameters
never change. -/
def Obligations.StoresChangeOnlyTheirTargets : Prop :=
  ∀ (i : Instr) (s t : State), exec i s = .next t →
    (∀ b, isRam b = true → (∀ a ∈ stores i s, sameRamByte a b = false) → t.ramAt b = s.ramAt b)
      ∧ ((∀ a ∈ stores i s, isRam a = false) → t.ram = s.ram)
      ∧ ((∀ a ∈ stores i s, isTia a = false) →
        t.tia.regs = s.tia.regs ∧ t.tia.latch4 = s.tia.latch4 ∧ t.tia.latch5 = s.tia.latch5)
      ∧ ((∀ a ∈ stores i s, isRiot a = false) →
        t.riot.orA = s.riot.orA ∧ t.riot.ddrA = s.riot.ddrA ∧ t.riot.orB = s.riot.orB ∧ t.riot.ddrB = s.riot.ddrB
          ∧ t.riot.div = s.riot.div)
      ∧ t.cart.rom = s.cart.rom ∧ t.cart.mapper = s.cart.mapper ∧ t.inputs = s.inputs ∧ t.fault = s.fault
      ∧ t.host = s.host ∧ t.params = s.params

/-- 10_state.md R31, R32, R33, R35, R37, R39: each CPU register and each flag is written only by the instructions the spec
lists for it. -/
def Obligations.OnlyListedInstructionsWriteARegister : Prop :=
  ∀ (i : Instr) (s t : State), exec i s = .next t →
    (mnemonic i ∉ accumulatorWriters → t.cpu.a = s.cpu.a)
      ∧ (mnemonic i ∉ xWriters → t.cpu.x = s.cpu.x)
      ∧ (mnemonic i ∉ yWriters → t.cpu.y = s.cpu.y)
      ∧ (mnemonic i ∉ stackWriters → t.cpu.s = s.cpu.s)
      ∧ (mnemonic i ∉ controlTransfers → t.cpu.pc = s.cpu.pc)
      ∧ (mnemonic i ∉ carryWriters → t.cpu.p.c = s.cpu.p.c)
      ∧ (mnemonic i ∉ zeroNegativeWriters → t.cpu.p.z = s.cpu.p.z ∧ t.cpu.p.n = s.cpu.p.n)
      ∧ (mnemonic i ∉ overflowWriters → t.cpu.p.v = s.cpu.p.v)
      ∧ (mnemonic i ∉ decimalWriters → t.cpu.p.d = s.cpu.p.d)
      ∧ (mnemonic i ∉ interruptWriters → t.cpu.p.i = s.cpu.p.i)

/-- 70_reset_and_hazards.md R460, R461: with no wait state, a fetched instruction takes the cycles the opcode table gives, with its
conditional ones; JSR and BRK do so unless a push of theirs strobes WSYNC, which holds their later reads (R346). -/
def Obligations.InstructionsTakeTheirCycles : Prop :=
  ∀ s : State, s.tia.waiting = false →
    let i := (fetchInstr s).1
    let u := (fetchInstr s).2
    (mnemonic i = .unimpl → u.cycles = s.cycles + baseCycles i)
      ∧ (mnemonic i ≠ .unimpl → (mnemonic i = .jsr ∨ mnemonic i = .brk →
        ∀ a ∈ stores i u, ¬(isTia a = true ∧ a.toNat % 64 = 2)) →
        ∃ t, runInstruction s = .next t ∧ t.cycles = s.cycles + baseCycles i + extraCycles i u)

/-! Time, the beam and the wait state. -/

/-- 60_exceptions.md R356, R410: a CPU cycle moves the beam by three colour clocks of the 59,736 of a frame and ticks the RIOT
once. -/
def Obligations.CycleMovesTheBeamByThree : Prop :=
  ∀ s : State, BeamInRange s.tia →
    (ticks s).tia.beam = (s.tia.beam + 3) % 59736 ∧ BeamInRange (ticks s).tia
      ∧ ((ticks s).tia.hcount = 0 → (ticks s).tia.waiting = false)
      ∧ ((ticks s).tia.hcount ≠ 0 → (ticks s).tia.waiting = s.tia.waiting)
      ∧ (ticks s).riot = s.riot.tick ∧ (ticks s).cycles = s.cycles + 1

/-- 60_exceptions.md R346, R412: a WSYNC strobe sets the wait latch, unless its own ticks end the line; while it is set a read
is held until horizontal clock 0 of the following line, and a write is not held. -/
def Obligations.WsyncHoldsReadsToTheNextLine : Prop :=
  ∀ (a : Word) (v : Byte) (s : State), BeamInRange s.tia →
    (isTia a = true → a.toNat % 64 = 2 → (writeCycle a v s).tia.waiting = decide (s.tia.hcount ≠ 225))
      ∧ (s.tia.waiting = true →
        (hold s).tia.hcount = 0 ∧ (hold s).tia.vcount = (s.tia.vcount + 1) % 262 ∧ (hold s).tia.waiting = false
          ∧ (hold s).cycles = s.cycles + (228 - s.tia.hcount) / 3
          ∧ (hold s).cpu = s.cpu ∧ (hold s).ram = s.ram ∧ (hold s).cart = s.cart
          ∧ readCycle a s = readCycle a (hold s) ∧ (writeCycle a v s).cycles = s.cycles + 1)
      ∧ (s.tia.waiting = false → hold s = s)

/-- 60_exceptions.md R345, R352, R356: `hcount` stays in 0 to 227 and at a multiple of 3, `vcount` in 0 to 261, through every
step. -/
def Obligations.StepsKeepTheBeamInRange : Prop :=
  ∀ s t : State, BeamInRange s.tia → step s = .next t → BeamInRange t.tia

/-- 60_exceptions.md R322, R340, R370, R383, R387, R395, 20_memory.md R64: every step keeps the machine's invariant. -/
def Obligations.StepsKeepTheInvariant : Prop :=
  ∀ s t : State, MachineInvariant s → step s = .next t → MachineInvariant t

/-- 60_exceptions.md R396, 70_reset_and_hazards.md R432: no step changes a raster already handed off, and none takes one back. -/
def Obligations.HandedOffFramesNeverChange : Prop :=
  ∀ s t : State, step s = .next t → ∃ new, t.tia.frames = new ++ s.tia.frames

/-! The TIA. -/

/-- 60_exceptions.md R341, R343, R346, R354, R368, R373, R374, R375, R383, R387, R391: which register stands at each offset,
with which mask, and what a TIA write does at its bus access. It stores the byte under the register's mask and changes no
other register; HMCLR clears the five motion registers; the old slots change only by the writes R368 names (which slots,
VerticalDelayCopies says); WSYNC sets the wait latch, HMOVE opens the window, CXCLR clears the collision latches, VBLANK with
bit 6 = 0 sets the fire-button latches, and VSYNC starts a frame under VSYNC_RESETS_LINE when it sets bit 1. Nothing else
changes, and offsets $2D to $3F have no register. -/
def Obligations.TiaWritesAreMasked : Prop :=
  (∀ (k : Nat) (o : BitVec 6), o.toNat = k → (tiaRegAt o).map (fun reg => (reg, reg.mask)) = writeRegisters[k]?)
  ∧ ∀ (a : Word) (v : Byte) (s : State), isTia a = true →
    let t := busWrite a v s
    let old := s.tia.regs
    let new := t.tia.regs
    (45 ≤ a.toNat % 64 → t = s)
      ∧ ∀ reg, tiaRegAt (busOffset 6 a) = some reg →
        let starts := reg = .vsync ∧ s.params.vsyncResetsLine = true ∧ old.vsync.getLsbD 1 = false ∧ v.getLsbD 1 = true
        let unlatches := reg = .vblank ∧ v.getLsbD 6 = false
        new.stored reg = v &&& reg.mask
          ∧ (reg = .hmclr → ∀ reg' ∈ motionRegs, new.stored reg' = 0)
          ∧ (∀ reg', reg' ≠ reg → (reg = .hmclr → reg' ∉ motionRegs) → new.stored reg' = old.stored reg')
          ∧ (reg ∉ delayedRegs → new.grp0Old = old.grp0Old ∧ new.grp1Old = old.grp1Old ∧ new.enablOld = old.enablOld
            ∧ new.colup0Old = old.colup0Old ∧ new.colup1Old = old.colup1Old ∧ new.colupfOld = old.colupfOld)
          ∧ t = { s with tia := { s.tia with
              regs := new
              waiting := s.tia.waiting || decide (reg = .wsync)
              motion :=
                if reg = .hmove then
                  { active := true, t := 0, ext := decide (s.tia.hcount < 68) || s.tia.motion.ext }
                else s.tia.motion
              cx := if reg = .cxclr then noCollisions else s.tia.cx
              latch4 := if unlatches then true else s.tia.latch4
              latch5 := if unlatches then true else s.tia.latch5
              vcount := if starts then 0 else s.tia.vcount
              raster := if starts then [] else s.tia.raster
              frames := if starts then s.tia.raster :: s.tia.frames else s.tia.frames } }

/-- 60_exceptions.md R368: which slots a write of GRP0 ($1B), GRP1 ($1C), ENABL ($1F) or a colour copies, under each VDEL_RULE,
whatever the VDEL bits are. -/
def Obligations.VerticalDelayCopies : Prop :=
  ∀ (p : Params) (t : Tia) (v : Byte),
    let r := t.regs
    (p.vdelRule = .cross →
      (t.write p 0x1B v).regs = { r with grp0New := v, grp1Old := r.grp1New }
        ∧ (t.write p 0x1C v).regs = { r with grp1New := v, grp0Old := r.grp0New, enablOld := r.enablNew }
        ∧ (t.write p 0x1F v).regs = { r with enablNew := v &&& 0x02 }
        ∧ (t.write p 0x06 v).regs = { r with colup0 := v &&& 0xFE }
        ∧ (t.write p 0x07 v).regs = { r with colup1 := v &&& 0xFE }
        ∧ (t.write p 0x08 v).regs = { r with colupf := v &&& 0xFE })
    ∧ (p.vdelRule = .self →
      (t.write p 0x1B v).regs = { r with grp0New := v, grp0Old := r.grp0New }
        ∧ (t.write p 0x1C v).regs = { r with grp1New := v, grp1Old := r.grp1New }
        ∧ (t.write p 0x1F v).regs = { r with enablNew := v &&& 0x02, enablOld := r.enablNew }
        ∧ (t.write p 0x06 v).regs = { r with colup0 := v &&& 0xFE, colup0Old := r.colup0 }
        ∧ (t.write p 0x07 v).regs = { r with colup1 := v &&& 0xFE, colup1Old := r.colup1 }
        ∧ (t.write p 0x08 v).regs = { r with colupf := v &&& 0xFE, colupfOld := r.colupf })

/-- 60_exceptions.md R371, R384: a position strobe acts at the end of its write cycle, after the three ticks, and moves its own
object only; RSYNC has no effect or, there too, ends the line, by RSYNC_EFFECT. That the line so ended is visible by the
`vcount` it ends with is the model's choice (log 22). -/
def Obligations.PositionStrobesActAfterTheTicks : Prop :=
  ∀ (a : Word) (v : Byte) (s : State), isTia a = true →
    let u := ticks (busWrite a v s)
    let clocked := 68 ≤ u.tia.hcount ∧ ¬(u.tia.motion.ext = true ∧ u.tia.hcount < 76)
    let player := if clocked then (160 - s.params.respDelayP.val) % 160 else (160 - s.params.respHblankPosP.val) % 160
    let small := if clocked then (160 - s.params.respDelayMB.val) % 160 else (160 - s.params.respHblankPosMB.val) % 160
    (a.toNat % 64 = 0x10 → writeCycle a v s = { u with tia := { u.tia with pos := { u.tia.pos with p0 := player } } })
      ∧ (a.toNat % 64 = 0x11 → writeCycle a v s = { u with tia := { u.tia with pos := { u.tia.pos with p1 := player } } })
      ∧ (a.toNat % 64 = 0x12 → writeCycle a v s = { u with tia := { u.tia with pos := { u.tia.pos with m0 := small } } })
      ∧ (a.toNat % 64 = 0x13 → writeCycle a v s = { u with tia := { u.tia with pos := { u.tia.pos with m1 := small } } })
      ∧ (a.toNat % 64 = 0x14 → writeCycle a v s = { u with tia := { u.tia with pos := { u.tia.pos with bl := small } } })
      ∧ (a.toNat % 64 ≠ 0x03 → a.toNat % 64 < 0x10 ∨ 0x14 < a.toNat % 64 → writeCycle a v s = u)
      ∧ (a.toNat % 64 = 0x03 → s.params.rsyncEffect = .ignore → writeCycle a v s = ticks s)
      ∧ (a.toNat % 64 = 0x03 → s.params.rsyncEffect = .resetHcount → cellsWf [] (ticks s).tia.raster = true →
        ∃ w : Tia, writeCycle a v s = { ticks s with tia := w } ∧ LineEnds s.params (ticks s).tia.line (ticks s).tia w
          ∧ w = { (ticks s).tia with
            hcount := w.hcount
            waiting := w.waiting
            vcount := w.vcount
            line := w.line
            raster := w.raster
            frames := w.frames })

/-- 60_exceptions.md R344, R370, R373 to R377: an HMOVE write opens the window; in the window, which lasts until slot 15 (log
24), an object whose motion register holds n, -8 to 7, receives n + 8 pulses; a tick advances each counter on the motion clock or on a
pulse of its own, then applies the RESMP locks, and moves the window on. -/
def Obligations.HmoveGivesMotionPlusEightPulses : Prop :=
  (∀ (a : Word) (v : Byte) (s : State), isTia a = true → a.toNat % 64 = 0x2A →
    (busWrite a v s).tia.motion =
      { active := true, t := 0, ext := if s.tia.hcount < 68 then true else s.tia.motion.ext })
  ∧ (∀ (p : Params) (hm : Byte) (ext : Bool),
    let n : Int := if hm.toNat / 16 < 8 then (hm.toNat / 16 : Nat) else (hm.toNat / 16 : Nat) - 16
    let window := p.hmovePulseStart.val + 61
    (((List.range window).filter fun t => hmovePulse p { active := true, t := t, ext := ext } hm).length : Int) = n + 8
      ∧ (∀ j, j < window →
        Nat.iterate (Motion.advance p) j { active := true, t := 0, ext := ext } = { active := true, t := j, ext := ext })
      ∧ (Nat.iterate (Motion.advance p) window { active := true, t := 0, ext := ext }).active = false)
  ∧ ∀ (p : Params) (t : Tia),
    let r := t.regs
    let u := t.tick p
    let p0 := advanced p t r.hmp0 t.pos.p0
    let p1 := advanced p t r.hmp1 t.pos.p1
    (∀ hm, hmovePulse p t.motion hm = pulsed p t.motion hm)
      ∧ u.pos =
        { p0 := p0
          p1 := p1
          m0 := locked p r.resmp0 r.nusiz0 p0 (advanced p t r.hmm0 t.pos.m0)
          m1 := locked p r.resmp1 r.nusiz1 p1 (advanced p t r.hmm1 t.pos.m1)
          bl := advanced p t r.hmbl t.pos.bl }
      ∧ u.motion =
        { active := t.motion.active && decide (t.motion.t < p.hmovePulseStart.val + 60)
          t := if t.motion.active = true then t.motion.t + 1 else t.motion.t
          ext := t.motion.ext && decide (t.hcount + 1 ≠ 76) }

/-- 60_exceptions.md R360, R361: the playfield bit drawn in column x, which the tick latches; outside the visible clocks the
latch holds. -/
def Obligations.PlayfieldPatternIsDrawn : Prop :=
  ∀ (p : Params) (t : Tia),
    (t.tick p).pfbit = t.latchedPf ∧ (t.hcount < 68 → t.latchedPf = t.pfbit)
      ∧ ∀ x, x < 160 → t.hcount = 68 + x →
        t.latchedPf
          = if x % 4 ≠ 0 then t.pfbit
            else if x < 80 then (playfieldPattern t.regs).getD (x / 4) false
            else if t.regs.ctrlpf.getLsbD 0 then (playfieldPattern t.regs).getD (39 - x / 4) false
            else (playfieldPattern t.regs).getD (x / 4 - 20) false

/-- 60_exceptions.md R367, R382, R394: a pixel's colour is that of the first active layer, else the background; which colour a
missile takes under VDEL_RULE self, and that the player of an active pair wins there, is the model's (log 21). -/
def Obligations.PixelTakesTheFirstActiveLayer : Prop :=
  ∀ (p : Params) (r : TiaRegs) (a : Active) (x : Nat),
    r.colour p a x = (((layers p r a x).find? fun l => l.1).map fun l => l.2).getD r.colubk

/-- 60_exceptions.md R344, R345, R351, R352, R375, R395, R396: a tick in the visible phase writes its column of the row: 0 when
blanked or in the extended blank, else the colour; other columns stay, and a tick in horizontal blank writes none. A tick
before the last of the line advances `hcount`; the last one, which writes column 159, ends the line with the row it
completed. That a line is visible by the `vcount` it ends with is the model's choice (log 22). -/
def Obligations.TickWritesItsColumn : Prop :=
  ∀ (p : Params) (t : Tia), t.line.wf = true → t.hcount < 228 →
    let u := t.tick p
    let pixel := if t.regs.vblank.getLsbD 1 = true ∨ (t.motion.ext = true ∧ t.hcount < 76) then 0
      else t.regs.colour p (activeSet p t.regs t.pos t.latchedPf) (t.hcount - 68)
    let Written := fun row : Memory =>
      row.wf = true ∧ ∀ x, row.read x = if x = t.hcount - 68 then pixel else t.line.read x
    (t.hcount < 68 → u.line = t.line)
      ∧ (68 ≤ t.hcount → t.hcount < 227 → Written u.line)
      ∧ (t.hcount < 227 → u.hcount = t.hcount + 1 ∧ u.vcount = t.vcount ∧ u.waiting = t.waiting
        ∧ u.raster = t.raster ∧ u.frames = t.frames)
      ∧ (t.hcount = 227 → cellsWf [] t.raster = true → ∃ row, Written row ∧ LineEnds p row t u)

/-- 60_exceptions.md R362 to R367, R390, R392: which drawables are active at a tick, and at a detecting tick each latch whose two
drawables are active is set; no latch is ever cleared by a tick. -/
def Obligations.TicksSetCollisionLatches : Prop :=
  ∀ (p : Params) (t : Tia),
    let r := t.regs
    let a := activeSet p r t.pos t.latchedPf
    let on := decide (68 ≤ t.hcount) && !(t.motion.ext && decide (t.hcount < 76))
      && !(p.vblankGatesCollisions && t.regs.vblank.getLsbD 1)
    let c := (t.tick p).cx
    c.m0p1 = (t.cx.m0p1 || on && a.m0 && a.p1) ∧ c.m0p0 = (t.cx.m0p0 || on && a.m0 && a.p0)
      ∧ c.m1p0 = (t.cx.m1p0 || on && a.m1 && a.p0) ∧ c.m1p1 = (t.cx.m1p1 || on && a.m1 && a.p1)
      ∧ c.p0pf = (t.cx.p0pf || on && a.p0 && a.pf) ∧ c.p0bl = (t.cx.p0bl || on && a.p0 && a.bl)
      ∧ c.p1pf = (t.cx.p1pf || on && a.p1 && a.pf) ∧ c.p1bl = (t.cx.p1bl || on && a.p1 && a.bl)
      ∧ c.m0pf = (t.cx.m0pf || on && a.m0 && a.pf) ∧ c.m0bl = (t.cx.m0bl || on && a.m0 && a.bl)
      ∧ c.m1pf = (t.cx.m1pf || on && a.m1 && a.pf) ∧ c.m1bl = (t.cx.m1bl || on && a.m1 && a.bl)
      ∧ c.blpf = (t.cx.blpf || on && a.bl && a.pf) ∧ c.p0p1 = (t.cx.p0p1 || on && a.p0 && a.p1)
      ∧ c.m0m1 = (t.cx.m0m1 || on && a.m0 && a.m1)
      ∧ (a.p0 = true ↔ PlayerDrawn p t.pos.p0 r.nusiz0 (if r.vdelp0.getLsbD 0 then r.grp0Old else r.grp0New) r.refp0)
      ∧ (a.p1 = true ↔ PlayerDrawn p t.pos.p1 r.nusiz1 (if r.vdelp1.getLsbD 0 then r.grp1Old else r.grp1New) r.refp1)
      ∧ (a.m0 = true ↔ MissileDrawn t.pos.m0 r.nusiz0 r.enam0 r.resmp0)
      ∧ (a.m1 = true ↔ MissileDrawn t.pos.m1 r.nusiz1 r.enam1 r.resmp1)
      ∧ (a.bl = true ↔ BallDrawn t.pos.bl (if r.vdelbl.getLsbD 0 then r.enablOld else r.enablNew) r.ctrlpf)
      ∧ a.pf = t.latchedPf

/-- 60_exceptions.md R389, R391: a CXCLR write clears all latches before its cycle's ticks, and no instruction that stores to
CXCLR nowhere clears any. -/
def Obligations.OnlyCxclrClearsCollisions : Prop :=
  (∀ (a : Word) (v : Byte) (s : State), isTia a = true → a.toNat % 64 = 0x2C →
    (busWrite a v s).tia.cx = noCollisions)
  ∧ ∀ (i : Instr) (s t : State), exec i s = .next t →
    (∀ a ∈ stores i s, ¬(isTia a = true ∧ a.toNat % 64 = 0x2C)) → LatchesGrow s.tia.cx t.tia.cx

/-- 60_exceptions.md R342, R386, R387: a TIA read returns its driven bits, whatever the free value of the undriven ones, and
changes nothing but the count of free values drawn. -/
def Obligations.TiaReadsDriveBitsSevenAndSix : Prop :=
  ∀ (a : Word) (s : State), isTia a = true →
    let o := a.toNat % 16
    let noise := Config.undriven s.draws
    let cx := s.tia.cx
    let dump := s.tia.regs.vblank.getLsbD 7
    let latched := s.tia.regs.vblank.getLsbD 6
    let bit7 : List Bool := [cx.m0p1, cx.m1p0, cx.p0pf, cx.p1pf, cx.m0pf, cx.m1pf, cx.blpf, cx.p0p1,
      s.inputs.pad0 && !dump, s.inputs.pad1 && !dump, s.inputs.pad2 && !dump, s.inputs.pad3 && !dump,
      if latched then s.tia.latch4 else s.inputs.fire0, if latched then s.tia.latch5 else s.inputs.fire1]
    let bit6 : List Bool := [cx.m0p0, cx.m1p1, cx.p0bl, cx.p1bl, cx.m0bl, cx.m1bl, noise.getLsbD 6, cx.m0m1]
    (busRead a s).2 = { s with draws := s.draws + 1 }
      ∧ (busRead a s).1.getLsbD 7 = bit7.getD o (noise.getLsbD 7)
      ∧ (busRead a s).1.getLsbD 6 = bit6.getD o (noise.getLsbD 6)
      ∧ ∀ k, k < 6 → (busRead a s).1.getLsbD k = noise.getLsbD k

/-! The RIOT. -/

/-- 60_exceptions.md R320, R321, R323, R326, R328: a RIOT read returns the register its address lines select, and only a read of
INTIM has an effect. -/
def Obligations.RiotReadsReturnTheSelectedRegister : Prop :=
  ∀ (a : Word) (s : State), isRiot a = true →
    let o := a.toNat % 8
    let r := s.riot
    let intim := o = 4 ∨ o = 6
    busRead a s =
      (if o = 0 then (r.orA &&& r.ddrA) ||| (s.inputs.inA &&& ~~~r.ddrA)
        else if o = 1 then r.ddrA
        else if o = 2 then (r.orB &&& r.ddrB) ||| (s.inputs.inB &&& ~~~r.ddrB)
        else if o = 3 then r.ddrB
        else if intim then r.count
        else if r.flag = true then 0x80 else 0,
      { s with riot :=
        if intim then { r with flag := false, fast := if s.params.timerReadRestoresDivisor = true then false else r.fast }
        else r })

/-- 60_exceptions.md R320, R324, R328, R331: a RIOT write loads the register its address lines select; a timer write loads
the count and the divisor and clears the flag and the fast mode. -/
def Obligations.RiotWritesLoadTheSelectedRegister : Prop :=
  ∀ (a : Word) (v : Byte) (s : State), isRiot a = true →
    let o := a.toNat % 32
    let r := s.riot
    let divisor : Divisor := if o % 4 = 0 then .by1 else if o % 4 = 1 then .by8 else if o % 4 = 2 then .by64 else .by1024
    busWrite a v s = { s with riot :=
      if o % 8 = 0 then { r with orA := v }
      else if o % 8 = 1 then { r with ddrA := v }
      else if o % 8 = 2 then { r with orB := v }
      else if o % 8 = 3 then { r with ddrB := v }
      else if 16 ≤ o then { r with count := v, div := divisor, pre := 1, flag := false, fast := false }
      else r }

/-- 60_exceptions.md R325, R327: after a timer write of N with divisor d the count reads N - 1 after the first tick and one less
every d ticks; the flag is clear for exactly N * d ticks and set from then on, when the count runs down from $FF every tick. -/
def Obligations.TimerUnderflowsAfterNTimesD : Prop :=
  ∀ (r : Riot) (d : Divisor) (n : Byte) (j : Nat),
    let u := Nat.iterate Riot.tick j (r.write (.timer d) n)
    let nd := n.toNat * d.toNat
    u.flag = decide (nd < j)
      ∧ (1 ≤ j → j ≤ nd → u.count.toNat = n.toNat - 1 - (j - 1) / d.toNat)
      ∧ (nd < j → u.count = BitVec.ofInt 8 (255 - ((j : Int) - nd - 1)))
      ∧ ∀ i : Inputs, u.value i .timint = if nd < j then 0x80 else 0
end

