-- ==== Sys2Proof/Laws/Bits.lean ====
section
/-! SUPPORT. The bit-field helpers in numbers: bytes of a word, addresses and the offsets units decode. -/

namespace Sys2Proof.Machine

@[simp] theorem loByte_toNat (w : Word) : (loByte w).toNat = w.toNat % 256 := by simp [loByte]

@[simp] theorem hiByte_toNat (w : Word) : (hiByte w).toNat = w.toNat / 256 := by
  have := w.isLt
  simp only [hiByte, BitVec.toNat_setWidth, BitVec.toNat_ushiftRight, Nat.shiftRight_eq_div_pow]
  omega

@[simp] theorem mkWord_toNat (h l : Byte) : (mkWord h l).toNat = h.toNat * 256 + l.toNat := by
  rw [mkWord, BitVec.toNat_append, ← Nat.shiftLeft_add_eq_or_of_lt l.isLt, Nat.shiftLeft_eq]

@[simp] theorem busAddr_toNat (a : Word) : (busAddr a).toNat = a.toNat % 8192 := by simp [busAddr]

@[simp] theorem busOffset_toNat (n : Nat) (a : Word) : (busOffset n a).toNat = a.toNat % 2 ^ n := by simp [busOffset]

@[simp] theorem zeroExtendByte_toNat (b : Byte) : (zeroExtendByte b).toNat = b.toNat := by
  have := b.isLt
  simp only [zeroExtendByte, BitVec.toNat_setWidth]
  omega

@[simp] theorem ramCell_eq (a : Word) : ramCell a = a.toNat % 128 := by simp [ramCell]

end Sys2Proof.Machine
end

