-- ==== Sys2Proof/Laws/Cells.lean ====
section
/-! SUPPORT. Lists of cells: a read after a write, and that a write keeps the canonical form. -/

namespace Sys2Proof.Machine

variable {α : Type}

@[simp] theorem cellsRead_nil (d : α) (k : Nat) : cellsRead d [] k = d := rfl

theorem cellsRead_of_lt (d : α) (m : List (Nat × α)) (k : Nat) (h : ∀ c ∈ m, k < c.1) : cellsRead d m k = d := by
  induction m with
  | nil => rfl
  | cons c m ih =>
    have hc := h c (by simp)
    have : c.1 ≠ k := by omega
    simp [cellsRead, this, ih fun c' hc' => h c' (by simp [hc'])]

variable [DecidableEq α]

/-- The canonical form in words: keys strictly rising, no cell at the default. -/
theorem cellsWf_iff (d : α) (m : List (Nat × α)) :
    cellsWf d m = true ↔ m.Pairwise (fun a b => a.1 < b.1) ∧ ∀ c ∈ m, c.2 ≠ d := by
  induction m with
  | nil => simp [cellsWf]
  | cons c m ih =>
    cases m with
    | nil => simp [cellsWf]
    | cons c' m =>
      rw [cellsWf, Bool.and_eq_true, Bool.and_eq_true, ih]
      constructor
      · rintro ⟨⟨h1, h2⟩, h3, h4⟩
        have h2 : c.1 < c'.1 := by simpa using h2
        refine ⟨List.pairwise_cons.2 ⟨fun b hb => ?_, h3⟩, fun b hb => ?_⟩
        · rcases List.mem_cons.1 hb with rfl | hb
          · exact h2
          · exact Nat.lt_trans h2 ((List.pairwise_cons.1 h3).1 b hb)
        · rcases List.mem_cons.1 hb with rfl | hb
          · simpa using h1
          · exact h4 b hb
      · rintro ⟨h1, h2⟩
        obtain ⟨h3, h4⟩ := List.pairwise_cons.1 h1
        exact ⟨⟨by simpa using h2 c (by simp), by simpa using h3 c' (by simp)⟩, h4, fun b hb => h2 b (by simp [hb])⟩

/-- Writing at one key leaves every other key as it was. -/
theorem cellsRead_write_of_ne (d : α) (m : List (Nat × α)) {j k : Nat} (v : α) (h : j ≠ k) :
    cellsRead d (cellsWrite d m k v) j = cellsRead d m j := by
  have hk : k ≠ j := Ne.symm h
  induction m with
  | nil => by_cases hv : v = d <;> simp [cellsWrite, cellsRead, hv, hk]
  | cons c m ih =>
    by_cases h1 : k < c.1
    · by_cases hv : v = d <;> simp [cellsWrite, cellsRead, h1, hv, hk]
    · by_cases h2 : k = c.1
      · have hc : c.1 ≠ j := h2 ▸ hk
        by_cases hv : v = d <;> simp [cellsWrite, cellsRead, h2, hv, hc]
      · simp [cellsWrite, cellsRead, h1, h2, ih]

/-- Reading the key just written gives the value written. -/
theorem cellsRead_write_self (d : α) (m : List (Nat × α)) (k : Nat) (v : α)
    (h : m.Pairwise fun a b => a.1 < b.1) : cellsRead d (cellsWrite d m k v) k = v := by
  induction m with
  | nil => by_cases hv : v = d <;> simp [cellsWrite, cellsRead, hv]
  | cons c m ih =>
    obtain ⟨hc, hm⟩ := List.pairwise_cons.1 h
    by_cases h1 : k < c.1
    · by_cases hv : v = d
      · have : c.1 ≠ k := by omega
        simp [cellsWrite, cellsRead, h1, hv, this]
        exact cellsRead_of_lt d m k fun b hb => Nat.lt_trans h1 (hc b hb)
      · simp [cellsWrite, cellsRead, h1, hv]
    · by_cases h2 : k = c.1
      · by_cases hv : v = d
        · simp [cellsWrite, h2, hv]
          exact cellsRead_of_lt d m c.1 fun b hb => hc b hb
        · simp [cellsWrite, cellsRead, h2, hv]
      · have h3 : c.1 ≠ k := Ne.symm h2
        simp [cellsWrite, cellsRead, h1, h2, h3, ih hm]

/-- A cell of a written list is an old cell or the one written, at a value other than the default. -/
theorem mem_cellsWrite {d : α} {m : List (Nat × α)} {k : Nat} {v : α} {c : Nat × α} (h : c ∈ cellsWrite d m k v) :
    c ∈ m ∨ (c = (k, v) ∧ v ≠ d) := by
  induction m with
  | nil => by_cases hv : v = d <;> simp_all [cellsWrite]
  | cons b m ih =>
    by_cases h1 : k < b.1
    · by_cases hv : v = d
      · simp [cellsWrite, h1, hv] at h; simp [h]
      · simp [cellsWrite, h1, hv] at h
        rcases h with h | h | h <;> simp [h, hv]
    · by_cases h2 : k = b.1
      · by_cases hv : v = d
        · simp [cellsWrite, h2, hv] at h; simp [h]
        · simp [cellsWrite, h2, hv] at h
          rcases h with h | h <;> simp [h, hv, h2]
      · simp [cellsWrite, h1, h2] at h
        rcases h with h | h
        · simp [h]
        · rcases ih h with h | h <;> simp [h]

/-- A write keeps the keys in rising order. -/
theorem pairwise_cellsWrite {d : α} {m : List (Nat × α)} (k : Nat) (v : α) (h : m.Pairwise fun a b => a.1 < b.1) :
    (cellsWrite d m k v).Pairwise fun a b => a.1 < b.1 := by
  induction m with
  | nil => by_cases hv : v = d <;> simp [cellsWrite, hv]
  | cons b m ih =>
    obtain ⟨hb, hm⟩ := List.pairwise_cons.1 h
    by_cases h1 : k < b.1
    · by_cases hv : v = d
      · simpa [cellsWrite, h1, hv] using h
      · have hkm : ∀ c ∈ m, k < c.1 := fun c hc => Nat.lt_trans h1 (hb c hc)
        simp only [cellsWrite, h1, hv, if_true, if_false]
        refine List.pairwise_cons.2 ⟨fun c hc => ?_, h⟩
        rcases List.mem_cons.1 hc with rfl | hc
        · exact h1
        · exact hkm c hc
    · by_cases h2 : k = b.1
      · by_cases hv : v = d
        · simpa [cellsWrite, h2, hv] using hm
        · simpa [cellsWrite, h2, hv] using ⟨fun x y hc => hb (x, y) hc, hm⟩
      · simp only [cellsWrite, h1, h2, if_false]
        refine List.pairwise_cons.2 ⟨fun c hc => ?_, ih hm⟩
        rcases mem_cellsWrite hc with hc | ⟨rfl, -⟩
        · exact hb c hc
        · show b.1 < k
          omega

/-- A write keeps the canonical form. -/
theorem cellsWf_write {d : α} {m : List (Nat × α)} (k : Nat) (v : α) (h : cellsWf d m = true) :
    cellsWf d (cellsWrite d m k v) = true := by
  obtain ⟨h1, h2⟩ := (cellsWf_iff d m).1 h
  refine (cellsWf_iff d _).2 ⟨pairwise_cellsWrite k v h1, fun c hc => ?_⟩
  rcases mem_cellsWrite hc with hc | ⟨rfl, hv⟩
  · exact h2 c hc
  · exact hv

theorem Memory.wf_nil : Memory.wf [] = true := rfl

theorem Memory.wf_write {m : Memory} (k : Nat) (v : Byte) (h : m.wf = true) : (m.write k v).wf = true :=
  cellsWf_write k v h

theorem Memory.read_write_self {m : Memory} (k : Nat) (v : Byte) (h : m.wf = true) : (m.write k v).read k = v :=
  cellsRead_write_self 0 m k v ((cellsWf_iff 0 m).1 h).1

theorem Memory.read_write_of_ne (m : Memory) {j k : Nat} (v : Byte) (h : j ≠ k) : (m.write k v).read j = m.read j :=
  cellsRead_write_of_ne 0 m v h

theorem Raster.row_commit_self {m : Raster} (r : Nat) (line : Memory) (h : cellsWf [] m = true) :
    (m.commit r line).row r = line :=
  cellsRead_write_self [] m r line ((cellsWf_iff [] m).1 h).1

theorem Raster.row_commit_of_ne (m : Raster) {j r : Nat} (line : Memory) (h : j ≠ r) :
    (m.commit r line).row j = m.row j :=
  cellsRead_write_of_ne [] m line h

end Sys2Proof.Machine
end

