-- ==== Sys2Proof/Laws/State.lean ====
section
/-! SUPPORT. One lemma per field per update of State, so that no proof unfolds a record update. -/

namespace Sys2Proof.Machine

@[simp] theorem State.mapCpu_cpu (f : Cpu → Cpu) (s : State) : (s.mapCpu f).cpu = f s.cpu := rfl

@[simp] theorem State.mapCpu_ram (f : Cpu → Cpu) (s : State) : (s.mapCpu f).ram = s.ram := rfl

@[simp] theorem State.mapCpu_cart (f : Cpu → Cpu) (s : State) : (s.mapCpu f).cart = s.cart := rfl

@[simp] theorem State.mapCpu_tia (f : Cpu → Cpu) (s : State) : (s.mapCpu f).tia = s.tia := rfl

@[simp] theorem State.mapCpu_riot (f : Cpu → Cpu) (s : State) : (s.mapCpu f).riot = s.riot := rfl

@[simp] theorem State.mapCpu_inputs (f : Cpu → Cpu) (s : State) : (s.mapCpu f).inputs = s.inputs := rfl

@[simp] theorem State.mapCpu_fault (f : Cpu → Cpu) (s : State) : (s.mapCpu f).fault = s.fault := rfl

@[simp] theorem State.mapCpu_cycles (f : Cpu → Cpu) (s : State) : (s.mapCpu f).cycles = s.cycles := rfl

@[simp] theorem State.mapCpu_host (f : Cpu → Cpu) (s : State) : (s.mapCpu f).host = s.host := rfl

@[simp] theorem State.mapCpu_draws (f : Cpu → Cpu) (s : State) : (s.mapCpu f).draws = s.draws := rfl

@[simp] theorem State.mapCpu_params (f : Cpu → Cpu) (s : State) : (s.mapCpu f).params = s.params := rfl

@[simp] theorem State.setPc_cpu (a : Word) (s : State) : (s.setPc a).cpu = { s.cpu with pc := a } := rfl

@[simp] theorem State.setPc_ram (a : Word) (s : State) : (s.setPc a).ram = s.ram := rfl

@[simp] theorem State.setPc_cart (a : Word) (s : State) : (s.setPc a).cart = s.cart := rfl

@[simp] theorem State.setPc_tia (a : Word) (s : State) : (s.setPc a).tia = s.tia := rfl

@[simp] theorem State.setPc_riot (a : Word) (s : State) : (s.setPc a).riot = s.riot := rfl

@[simp] theorem State.setPc_inputs (a : Word) (s : State) : (s.setPc a).inputs = s.inputs := rfl

@[simp] theorem State.setPc_fault (a : Word) (s : State) : (s.setPc a).fault = s.fault := rfl

@[simp] theorem State.setPc_cycles (a : Word) (s : State) : (s.setPc a).cycles = s.cycles := rfl

@[simp] theorem State.setPc_host (a : Word) (s : State) : (s.setPc a).host = s.host := rfl

@[simp] theorem State.setPc_draws (a : Word) (s : State) : (s.setPc a).draws = s.draws := rfl

@[simp] theorem State.setPc_params (a : Word) (s : State) : (s.setPc a).params = s.params := rfl

@[simp] theorem ticks_cpu (s : State) : (ticks s).cpu = s.cpu := rfl

@[simp] theorem ticks_ram (s : State) : (ticks s).ram = s.ram := rfl

@[simp] theorem ticks_cart (s : State) : (ticks s).cart = s.cart := rfl

@[simp] theorem ticks_tia (s : State) : (ticks s).tia = s.tia.tick3 s.params := rfl

@[simp] theorem ticks_riot (s : State) : (ticks s).riot = s.riot.tick := rfl

@[simp] theorem ticks_inputs (s : State) : (ticks s).inputs = s.inputs := rfl

@[simp] theorem ticks_fault (s : State) : (ticks s).fault = s.fault := rfl

@[simp] theorem ticks_cycles (s : State) : (ticks s).cycles = s.cycles + 1 := rfl

@[simp] theorem ticks_host (s : State) : (ticks s).host = s.host := rfl

@[simp] theorem ticks_draws (s : State) : (ticks s).draws = s.draws := rfl

@[simp] theorem ticks_params (s : State) : (ticks s).params = s.params := rfl

@[simp] theorem sampleInputs_cpu (i : Inputs) (s : State) : (sampleInputs i s).cpu = s.cpu := rfl

@[simp] theorem sampleInputs_ram (i : Inputs) (s : State) : (sampleInputs i s).ram = s.ram := rfl

@[simp] theorem sampleInputs_cart (i : Inputs) (s : State) : (sampleInputs i s).cart = s.cart := rfl

@[simp] theorem sampleInputs_tia (i : Inputs) (s : State) : (sampleInputs i s).tia = s.tia.sampleButtons i := rfl

@[simp] theorem sampleInputs_riot (i : Inputs) (s : State) : (sampleInputs i s).riot = s.riot := rfl

@[simp] theorem sampleInputs_inputs (i : Inputs) (s : State) : (sampleInputs i s).inputs = i := rfl

@[simp] theorem sampleInputs_fault (i : Inputs) (s : State) : (sampleInputs i s).fault = s.fault := rfl

@[simp] theorem sampleInputs_cycles (i : Inputs) (s : State) : (sampleInputs i s).cycles = s.cycles := rfl

@[simp] theorem sampleInputs_host (i : Inputs) (s : State) : (sampleInputs i s).host = s.host := rfl

@[simp] theorem sampleInputs_draws (i : Inputs) (s : State) : (sampleInputs i s).draws = s.draws := rfl

@[simp] theorem sampleInputs_params (i : Inputs) (s : State) : (sampleInputs i s).params = s.params := rfl

@[simp] theorem hostReset_cpu (s : State) : (hostReset s).cpu = { s.cpu with pc := (s.cart.atResetBank (Config.resetBank s.draws)).resetVector, p := { s.cpu.p with i := true } } := rfl

@[simp] theorem hostReset_ram (s : State) : (hostReset s).ram = s.ram := rfl

@[simp] theorem hostReset_cart (s : State) : (hostReset s).cart = s.cart.atResetBank (Config.resetBank s.draws) := rfl

@[simp] theorem hostReset_tia (s : State) : (hostReset s).tia = s.tia.hostReset := rfl

@[simp] theorem hostReset_riot (s : State) : (hostReset s).riot = s.riot.hostReset := rfl

@[simp] theorem hostReset_inputs (s : State) : (hostReset s).inputs = s.inputs := rfl

@[simp] theorem hostReset_fault (s : State) : (hostReset s).fault = none := rfl

@[simp] theorem hostReset_cycles (s : State) : (hostReset s).cycles = 0 := rfl

@[simp] theorem hostReset_host (s : State) : (hostReset s).host = s.host := rfl

@[simp] theorem hostReset_draws (s : State) : (hostReset s).draws = s.draws + 1 := rfl

@[simp] theorem hostReset_params (s : State) : (hostReset s).params = s.params := rfl

theorem takeReset_of_valid {s : State} (h : s.cart.valid = true) : takeReset s = .next (hostReset s) := by simp [takeReset, h]

theorem takeReset_of_refused {s : State} (h : s.cart.valid = false) : takeReset s = refuseCartridge s := by simp [takeReset, h]

end Sys2Proof.Machine
end

