-- ==== Sys2Proof/Laws/Bus.lean ====
section
/-! SUPPORT. What one bus access can change (20_memory.md R61, R64, R69, R72), and what a CPU cycle can change
(60_exceptions.md R410, R412). -/

namespace Sys2Proof.Machine

@[simp] theorem busRead_cpu (a : Word) (s : State) : ((busRead a s).2).cpu = s.cpu := by
  unfold busRead; split <;> rfl

@[simp] theorem busRead_ram (a : Word) (s : State) : ((busRead a s).2).ram = s.ram := by
  unfold busRead; split <;> rfl

@[simp] theorem busRead_cart_rom (a : Word) (s : State) : ((busRead a s).2).cart.rom = s.cart.rom := by
  unfold busRead; split <;> rfl

@[simp] theorem busRead_cart_mapper (a : Word) (s : State) : ((busRead a s).2).cart.mapper = s.cart.mapper := by
  unfold busRead; split <;> rfl

@[simp] theorem busRead_tia (a : Word) (s : State) : ((busRead a s).2).tia = s.tia := by
  unfold busRead; split <;> rfl

@[simp] theorem busRead_inputs (a : Word) (s : State) : ((busRead a s).2).inputs = s.inputs := by
  unfold busRead; split <;> rfl

@[simp] theorem busRead_fault (a : Word) (s : State) : ((busRead a s).2).fault = s.fault := by
  unfold busRead; split <;> rfl

@[simp] theorem busRead_cycles (a : Word) (s : State) : ((busRead a s).2).cycles = s.cycles := by
  unfold busRead; split <;> rfl

@[simp] theorem busRead_host (a : Word) (s : State) : ((busRead a s).2).host = s.host := by
  unfold busRead; split <;> rfl

@[simp] theorem busRead_params (a : Word) (s : State) : ((busRead a s).2).params = s.params := by
  unfold busRead; split <;> rfl

@[simp] theorem busWrite_cpu (a : Word) (v : Byte) (s : State) : (busWrite a v s).cpu = s.cpu := by
  unfold busWrite; split <;> rfl

@[simp] theorem busWrite_cart_rom (a : Word) (v : Byte) (s : State) : (busWrite a v s).cart.rom = s.cart.rom := by
  unfold busWrite; split <;> rfl

@[simp] theorem busWrite_cart_mapper (a : Word) (v : Byte) (s : State) : (busWrite a v s).cart.mapper = s.cart.mapper := by
  unfold busWrite; split <;> rfl

@[simp] theorem busWrite_inputs (a : Word) (v : Byte) (s : State) : (busWrite a v s).inputs = s.inputs := by
  unfold busWrite; split <;> rfl

@[simp] theorem busWrite_fault (a : Word) (v : Byte) (s : State) : (busWrite a v s).fault = s.fault := by
  unfold busWrite; split <;> rfl

@[simp] theorem busWrite_cycles (a : Word) (v : Byte) (s : State) : (busWrite a v s).cycles = s.cycles := by
  unfold busWrite; split <;> rfl

@[simp] theorem busWrite_host (a : Word) (v : Byte) (s : State) : (busWrite a v s).host = s.host := by
  unfold busWrite; split <;> rfl

@[simp] theorem busWrite_draws (a : Word) (v : Byte) (s : State) : (busWrite a v s).draws = s.draws := by
  unfold busWrite; split <;> rfl

@[simp] theorem busWrite_params (a : Word) (v : Byte) (s : State) : (busWrite a v s).params = s.params := by
  unfold busWrite; split <;> rfl

@[simp] theorem busDeferred_cpu (a : Word) (s : State) : (busDeferred a s).cpu = s.cpu := by
  unfold busDeferred; split <;> rfl

@[simp] theorem busDeferred_ram (a : Word) (s : State) : (busDeferred a s).ram = s.ram := by
  unfold busDeferred; split <;> rfl

@[simp] theorem busDeferred_cart (a : Word) (s : State) : (busDeferred a s).cart = s.cart := by
  unfold busDeferred; split <;> rfl

@[simp] theorem busDeferred_riot (a : Word) (s : State) : (busDeferred a s).riot = s.riot := by
  unfold busDeferred; split <;> rfl

@[simp] theorem busDeferred_inputs (a : Word) (s : State) : (busDeferred a s).inputs = s.inputs := by
  unfold busDeferred; split <;> rfl

@[simp] theorem busDeferred_fault (a : Word) (s : State) : (busDeferred a s).fault = s.fault := by
  unfold busDeferred; split <;> rfl

@[simp] theorem busDeferred_cycles (a : Word) (s : State) : (busDeferred a s).cycles = s.cycles := by
  unfold busDeferred; split <;> rfl

@[simp] theorem busDeferred_host (a : Word) (s : State) : (busDeferred a s).host = s.host := by
  unfold busDeferred; split <;> rfl

@[simp] theorem busDeferred_draws (a : Word) (s : State) : (busDeferred a s).draws = s.draws := by
  unfold busDeferred; split <;> rfl

@[simp] theorem busDeferred_params (a : Word) (s : State) : (busDeferred a s).params = s.params := by
  unfold busDeferred; split <;> rfl

/-- A bus write stores in RAM exactly where the address selects RAM. -/
@[simp] theorem busWrite_ram (a : Word) (v : Byte) (s : State) : (busWrite a v s).ram = storeRam a v s.ram := by
  unfold busWrite storeRam isRam
  cases h : deviceAt (busAddr a) <;> simp [ramCell]

/-- A read of RAM returns the byte RAM holds and changes nothing. -/
theorem busRead_of_isRam {a : Word} (h : isRam a = true) (s : State) : busRead a s = (s.ramAt a, s) := by
  have : deviceAt (busAddr a) = .ram := by simpa [isRam] using h
  simp [busRead, this, State.ramAt, ramCell]

theorem holdFor_cpu (n : Nat) (s : State) : (holdFor n s).cpu = s.cpu := by
  induction n generalizing s with
  | zero => rfl
  | succ n ih => unfold holdFor; split <;> simp [ih]

@[simp] theorem hold_cpu (s : State) : (hold s).cpu = s.cpu := holdFor_cpu 76 s

theorem holdFor_ram (n : Nat) (s : State) : (holdFor n s).ram = s.ram := by
  induction n generalizing s with
  | zero => rfl
  | succ n ih => unfold holdFor; split <;> simp [ih]

@[simp] theorem hold_ram (s : State) : (hold s).ram = s.ram := holdFor_ram 76 s

theorem holdFor_cart (n : Nat) (s : State) : (holdFor n s).cart = s.cart := by
  induction n generalizing s with
  | zero => rfl
  | succ n ih => unfold holdFor; split <;> simp [ih]

@[simp] theorem hold_cart (s : State) : (hold s).cart = s.cart := holdFor_cart 76 s

theorem holdFor_inputs (n : Nat) (s : State) : (holdFor n s).inputs = s.inputs := by
  induction n generalizing s with
  | zero => rfl
  | succ n ih => unfold holdFor; split <;> simp [ih]

@[simp] theorem hold_inputs (s : State) : (hold s).inputs = s.inputs := holdFor_inputs 76 s

theorem holdFor_fault (n : Nat) (s : State) : (holdFor n s).fault = s.fault := by
  induction n generalizing s with
  | zero => rfl
  | succ n ih => unfold holdFor; split <;> simp [ih]

@[simp] theorem hold_fault (s : State) : (hold s).fault = s.fault := holdFor_fault 76 s

theorem holdFor_host (n : Nat) (s : State) : (holdFor n s).host = s.host := by
  induction n generalizing s with
  | zero => rfl
  | succ n ih => unfold holdFor; split <;> simp [ih]

@[simp] theorem hold_host (s : State) : (hold s).host = s.host := holdFor_host 76 s

theorem holdFor_draws (n : Nat) (s : State) : (holdFor n s).draws = s.draws := by
  induction n generalizing s with
  | zero => rfl
  | succ n ih => unfold holdFor; split <;> simp [ih]

@[simp] theorem hold_draws (s : State) : (hold s).draws = s.draws := holdFor_draws 76 s

theorem holdFor_params (n : Nat) (s : State) : (holdFor n s).params = s.params := by
  induction n generalizing s with
  | zero => rfl
  | succ n ih => unfold holdFor; split <;> simp [ih]

@[simp] theorem hold_params (s : State) : (hold s).params = s.params := holdFor_params 76 s

/-- With the wait latch clear nothing is held. -/
theorem hold_of_not_waiting {s : State} (h : s.tia.waiting = false) : hold s = s := by
  simp [hold, holdFor, h]

@[simp] theorem readCycle_cpu (a : Word) (s : State) : (readCycle a s).2.cpu = s.cpu := by
  simp [readCycle]

@[simp] theorem dummyRead_cpu (a : Word) (s : State) : (dummyRead a s).cpu = s.cpu := by
  simp [dummyRead]

@[simp] theorem readCycle_ram (a : Word) (s : State) : (readCycle a s).2.ram = s.ram := by
  simp [readCycle]

@[simp] theorem dummyRead_ram (a : Word) (s : State) : (dummyRead a s).ram = s.ram := by
  simp [dummyRead]

@[simp] theorem readCycle_cart_rom (a : Word) (s : State) : (readCycle a s).2.cart.rom = s.cart.rom := by
  simp [readCycle]

@[simp] theorem dummyRead_cart_rom (a : Word) (s : State) : (dummyRead a s).cart.rom = s.cart.rom := by
  simp [dummyRead]

@[simp] theorem readCycle_cart_mapper (a : Word) (s : State) : (readCycle a s).2.cart.mapper = s.cart.mapper := by
  simp [readCycle]

@[simp] theorem dummyRead_cart_mapper (a : Word) (s : State) : (dummyRead a s).cart.mapper = s.cart.mapper := by
  simp [dummyRead]

@[simp] theorem readCycle_inputs (a : Word) (s : State) : (readCycle a s).2.inputs = s.inputs := by
  simp [readCycle]

@[simp] theorem dummyRead_inputs (a : Word) (s : State) : (dummyRead a s).inputs = s.inputs := by
  simp [dummyRead]

@[simp] theorem readCycle_fault (a : Word) (s : State) : (readCycle a s).2.fault = s.fault := by
  simp [readCycle]

@[simp] theorem dummyRead_fault (a : Word) (s : State) : (dummyRead a s).fault = s.fault := by
  simp [dummyRead]

@[simp] theorem readCycle_host (a : Word) (s : State) : (readCycle a s).2.host = s.host := by
  simp [readCycle]

@[simp] theorem dummyRead_host (a : Word) (s : State) : (dummyRead a s).host = s.host := by
  simp [dummyRead]

@[simp] theorem readCycle_params (a : Word) (s : State) : (readCycle a s).2.params = s.params := by
  simp [readCycle]

@[simp] theorem dummyRead_params (a : Word) (s : State) : (dummyRead a s).params = s.params := by
  simp [dummyRead]

@[simp] theorem writeCycle_cpu (a : Word) (v : Byte) (s : State) : (writeCycle a v s).cpu = s.cpu := by
  simp [writeCycle]

@[simp] theorem writeCycle_cart_rom (a : Word) (v : Byte) (s : State) : (writeCycle a v s).cart.rom = s.cart.rom := by
  simp [writeCycle]

@[simp] theorem writeCycle_cart_mapper (a : Word) (v : Byte) (s : State) : (writeCycle a v s).cart.mapper = s.cart.mapper := by
  simp [writeCycle]

@[simp] theorem writeCycle_inputs (a : Word) (v : Byte) (s : State) : (writeCycle a v s).inputs = s.inputs := by
  simp [writeCycle]

@[simp] theorem writeCycle_fault (a : Word) (v : Byte) (s : State) : (writeCycle a v s).fault = s.fault := by
  simp [writeCycle]

@[simp] theorem writeCycle_host (a : Word) (v : Byte) (s : State) : (writeCycle a v s).host = s.host := by
  simp [writeCycle]

@[simp] theorem writeCycle_draws (a : Word) (v : Byte) (s : State) : (writeCycle a v s).draws = s.draws := by
  simp [writeCycle]

@[simp] theorem writeCycle_params (a : Word) (v : Byte) (s : State) : (writeCycle a v s).params = s.params := by
  simp [writeCycle]

@[simp] theorem writeCycle_ram (a : Word) (v : Byte) (s : State) : (writeCycle a v s).ram = storeRam a v s.ram := by
  simp [writeCycle]

@[simp] theorem writeCycle_cycles (a : Word) (v : Byte) (s : State) : (writeCycle a v s).cycles = s.cycles + 1 := by
  simp [writeCycle]

/-- A read cycle of RAM returns the byte RAM holds, held or not. -/
theorem readCycle_of_isRam {a : Word} (h : isRam a = true) (s : State) : (readCycle a s).1 = s.ramAt a := by
  simp [readCycle, busRead_of_isRam h, State.ramAt]

/-- A store to the RAM byte an address designates is read back there. -/
theorem ramAt_storeRam_self {a : Word} (h : isRam a = true) {m : Memory} (hm : m.wf = true) (v : Byte) :
    (storeRam a v m).read (ramCell a) = v := by
  simp [storeRam, h, Memory.read_write_self _ _ hm]

/-- A store leaves every RAM byte that it does not designate. -/
theorem storeRam_read_of_ne {a b : Word} (h : sameRamByte a b = false) (hb : isRam b = true) (m : Memory) (v : Byte) :
    (storeRam a v m).read (ramCell b) = m.read (ramCell b) := by
  unfold storeRam
  split
  · next ha =>
    have : ramCell b ≠ ramCell a := by
      intro hc
      simp only [sameRamByte, ha, hb, hc, beq_self_eq_true, Bool.and_self, Bool.true_eq_false] at h
    exact Memory.read_write_of_ne m v this
  · rfl

/-- A store keeps the form of RAM. -/
theorem storeRam_formed {m : Memory} (h : RamFormed m) (a : Word) (v : Byte) : RamFormed (storeRam a v m) := by
  unfold storeRam
  split
  · refine ⟨Memory.wf_write _ _ h.1, fun c hc => ?_⟩
    rcases mem_cellsWrite hc with hc | ⟨rfl, -⟩
    · exact h.2 c hc
    · exact (busOffset 7 a).isLt
  · exact h

end Sys2Proof.Machine
end

