-- ==== Sys2Proof/Laws/Operands.lean ====
section
/-! SUPPORT. What the addressing modes, the operand classes and the stack operations can change: each law says once
what a caller needs of the operation it names. -/

namespace Sys2Proof.Machine

@[simp] theorem indexCycles_cpu (always : Bool) (base : Word) (idx : Byte) (s : State) : ((indexCycles always base idx s).2).cpu = s.cpu := by
  unfold indexCycles; dsimp only; split <;> simp

@[simp] theorem indexCycles_ram (always : Bool) (base : Word) (idx : Byte) (s : State) : ((indexCycles always base idx s).2).ram = s.ram := by
  unfold indexCycles; dsimp only; split <;> simp

@[simp] theorem indexCycles_cart_rom (always : Bool) (base : Word) (idx : Byte) (s : State) : ((indexCycles always base idx s).2).cart.rom = s.cart.rom := by
  unfold indexCycles; dsimp only; split <;> simp

@[simp] theorem indexCycles_cart_mapper (always : Bool) (base : Word) (idx : Byte) (s : State) : ((indexCycles always base idx s).2).cart.mapper = s.cart.mapper := by
  unfold indexCycles; dsimp only; split <;> simp

@[simp] theorem indexCycles_inputs (always : Bool) (base : Word) (idx : Byte) (s : State) : ((indexCycles always base idx s).2).inputs = s.inputs := by
  unfold indexCycles; dsimp only; split <;> simp

@[simp] theorem indexCycles_fault (always : Bool) (base : Word) (idx : Byte) (s : State) : ((indexCycles always base idx s).2).fault = s.fault := by
  unfold indexCycles; dsimp only; split <;> simp

@[simp] theorem indexCycles_host (always : Bool) (base : Word) (idx : Byte) (s : State) : ((indexCycles always base idx s).2).host = s.host := by
  unfold indexCycles; dsimp only; split <;> simp

@[simp] theorem indexCycles_params (always : Bool) (base : Word) (idx : Byte) (s : State) : ((indexCycles always base idx s).2).params = s.params := by
  unfold indexCycles; dsimp only; split <;> simp

@[simp] theorem zpPointer_cpu (b : Byte) (s : State) : ((zpPointer b s).2).cpu = s.cpu := by
  simp [zpPointer]

@[simp] theorem zpPointer_ram (b : Byte) (s : State) : ((zpPointer b s).2).ram = s.ram := by
  simp [zpPointer]

@[simp] theorem zpPointer_cart_rom (b : Byte) (s : State) : ((zpPointer b s).2).cart.rom = s.cart.rom := by
  simp [zpPointer]

@[simp] theorem zpPointer_cart_mapper (b : Byte) (s : State) : ((zpPointer b s).2).cart.mapper = s.cart.mapper := by
  simp [zpPointer]

@[simp] theorem zpPointer_inputs (b : Byte) (s : State) : ((zpPointer b s).2).inputs = s.inputs := by
  simp [zpPointer]

@[simp] theorem zpPointer_fault (b : Byte) (s : State) : ((zpPointer b s).2).fault = s.fault := by
  simp [zpPointer]

@[simp] theorem zpPointer_host (b : Byte) (s : State) : ((zpPointer b s).2).host = s.host := by
  simp [zpPointer]

@[simp] theorem zpPointer_params (b : Byte) (s : State) : ((zpPointer b s).2).params = s.params := by
  simp [zpPointer]

@[simp] theorem effAddr_cpu (always : Bool) (m : Addr) (s : State) : ((effAddr always m s).2).cpu = s.cpu := by
  cases m <;> simp [effAddr]

@[simp] theorem effAddr_ram (always : Bool) (m : Addr) (s : State) : ((effAddr always m s).2).ram = s.ram := by
  cases m <;> simp [effAddr]

@[simp] theorem effAddr_cart_rom (always : Bool) (m : Addr) (s : State) : ((effAddr always m s).2).cart.rom = s.cart.rom := by
  cases m <;> simp [effAddr]

@[simp] theorem effAddr_cart_mapper (always : Bool) (m : Addr) (s : State) : ((effAddr always m s).2).cart.mapper = s.cart.mapper := by
  cases m <;> simp [effAddr]

@[simp] theorem effAddr_inputs (always : Bool) (m : Addr) (s : State) : ((effAddr always m s).2).inputs = s.inputs := by
  cases m <;> simp [effAddr]

@[simp] theorem effAddr_fault (always : Bool) (m : Addr) (s : State) : ((effAddr always m s).2).fault = s.fault := by
  cases m <;> simp [effAddr]

@[simp] theorem effAddr_host (always : Bool) (m : Addr) (s : State) : ((effAddr always m s).2).host = s.host := by
  cases m <;> simp [effAddr]

@[simp] theorem effAddr_params (always : Bool) (m : Addr) (s : State) : ((effAddr always m s).2).params = s.params := by
  cases m <;> simp [effAddr]

@[simp] theorem readOperand_cpu (m : Addr) (s : State) : ((readOperand m s).2).cpu = s.cpu := by
  simp [readOperand]

@[simp] theorem readOperand_ram (m : Addr) (s : State) : ((readOperand m s).2).ram = s.ram := by
  simp [readOperand]

@[simp] theorem readOperand_cart_rom (m : Addr) (s : State) : ((readOperand m s).2).cart.rom = s.cart.rom := by
  simp [readOperand]

@[simp] theorem readOperand_cart_mapper (m : Addr) (s : State) : ((readOperand m s).2).cart.mapper = s.cart.mapper := by
  simp [readOperand]

@[simp] theorem readOperand_inputs (m : Addr) (s : State) : ((readOperand m s).2).inputs = s.inputs := by
  simp [readOperand]

@[simp] theorem readOperand_fault (m : Addr) (s : State) : ((readOperand m s).2).fault = s.fault := by
  simp [readOperand]

@[simp] theorem readOperand_host (m : Addr) (s : State) : ((readOperand m s).2).host = s.host := by
  simp [readOperand]

@[simp] theorem readOperand_params (m : Addr) (s : State) : ((readOperand m s).2).params = s.params := by
  simp [readOperand]

@[simp] theorem writeOperand_cpu (m : Addr) (v : Byte) (s : State) : (writeOperand m v s).cpu = s.cpu := by
  simp [writeOperand]

@[simp] theorem writeOperand_cart_rom (m : Addr) (v : Byte) (s : State) : (writeOperand m v s).cart.rom = s.cart.rom := by
  simp [writeOperand]

@[simp] theorem writeOperand_cart_mapper (m : Addr) (v : Byte) (s : State) : (writeOperand m v s).cart.mapper = s.cart.mapper := by
  simp [writeOperand]

@[simp] theorem writeOperand_inputs (m : Addr) (v : Byte) (s : State) : (writeOperand m v s).inputs = s.inputs := by
  simp [writeOperand]

@[simp] theorem writeOperand_fault (m : Addr) (v : Byte) (s : State) : (writeOperand m v s).fault = s.fault := by
  simp [writeOperand]

@[simp] theorem writeOperand_host (m : Addr) (v : Byte) (s : State) : (writeOperand m v s).host = s.host := by
  simp [writeOperand]

@[simp] theorem writeOperand_params (m : Addr) (v : Byte) (s : State) : (writeOperand m v s).params = s.params := by
  simp [writeOperand]

@[simp] theorem modifyOperand_cpu (m : Addr) (f : Byte → Byte) (s : State) : ((modifyOperand m f s).2).cpu = s.cpu := by
  simp [modifyOperand]

@[simp] theorem modifyOperand_cart_rom (m : Addr) (f : Byte → Byte) (s : State) : ((modifyOperand m f s).2).cart.rom = s.cart.rom := by
  simp [modifyOperand]

@[simp] theorem modifyOperand_cart_mapper (m : Addr) (f : Byte → Byte) (s : State) : ((modifyOperand m f s).2).cart.mapper = s.cart.mapper := by
  simp [modifyOperand]

@[simp] theorem modifyOperand_inputs (m : Addr) (f : Byte → Byte) (s : State) : ((modifyOperand m f s).2).inputs = s.inputs := by
  simp [modifyOperand]

@[simp] theorem modifyOperand_fault (m : Addr) (f : Byte → Byte) (s : State) : ((modifyOperand m f s).2).fault = s.fault := by
  simp [modifyOperand]

@[simp] theorem modifyOperand_host (m : Addr) (f : Byte → Byte) (s : State) : ((modifyOperand m f s).2).host = s.host := by
  simp [modifyOperand]

@[simp] theorem modifyOperand_params (m : Addr) (f : Byte → Byte) (s : State) : ((modifyOperand m f s).2).params = s.params := by
  simp [modifyOperand]

/-- The write class stores at its effective address. -/
@[simp] theorem writeOperand_ram (m : Addr) (v : Byte) (s : State) :
    (writeOperand m v s).ram = storeRam (effAddr true m s).1 v s.ram := by
  simp [writeOperand]

/-- The RMW class stores twice at its effective address: the byte it read, then the result. -/
@[simp] theorem modifyOperand_ram (m : Addr) (f : Byte → Byte) (s : State) :
    (modifyOperand m f s).2.ram
      = storeRam (effAddr true m s).1 (f (modifyOperand m f s).1)
          (storeRam (effAddr true m s).1 (modifyOperand m f s).1 s.ram) := by
  simp [modifyOperand]

/-- In RAM the RMW class reads the byte RAM holds at its effective address. -/
theorem modifyOperand_of_isRam {m : Addr} {s : State} (h : isRam (effAddr true m s).1 = true) (f : Byte → Byte) :
    (modifyOperand m f s).1 = s.ramAt (effAddr true m s).1 := by
  simp [modifyOperand, readCycle_of_isRam h, State.ramAt]

@[simp] theorem fetchByte_cpu (s : State) : (fetchByte s).2.cpu = { s.cpu with pc := s.cpu.pc + 1 } := by
  simp [fetchByte]

@[simp] theorem fetchByte_ram (s : State) : ((fetchByte s).2).ram = s.ram := by
  simp [fetchByte]

@[simp] theorem fetchByte_cart_rom (s : State) : ((fetchByte s).2).cart.rom = s.cart.rom := by
  simp [fetchByte]

@[simp] theorem fetchByte_cart_mapper (s : State) : ((fetchByte s).2).cart.mapper = s.cart.mapper := by
  simp [fetchByte]

@[simp] theorem fetchByte_inputs (s : State) : ((fetchByte s).2).inputs = s.inputs := by
  simp [fetchByte]

@[simp] theorem fetchByte_fault (s : State) : ((fetchByte s).2).fault = s.fault := by
  simp [fetchByte]

@[simp] theorem fetchByte_host (s : State) : ((fetchByte s).2).host = s.host := by
  simp [fetchByte]

@[simp] theorem fetchByte_params (s : State) : ((fetchByte s).2).params = s.params := by
  simp [fetchByte]

@[simp] theorem pushCycle_cpu (v : Byte) (s : State) : (pushCycle v s).cpu = { s.cpu with s := s.cpu.s - 1 } := by
  simp [pushCycle]

/-- A push stores at the stack address. -/
@[simp] theorem pushCycle_ram (v : Byte) (s : State) :
    (pushCycle v s).ram = storeRam (stackAddr s.cpu.s) v s.ram := by
  simp [pushCycle]

@[simp] theorem pushCycle_cart_rom (v : Byte) (s : State) : (pushCycle v s).cart.rom = s.cart.rom := by
  simp [pushCycle]

@[simp] theorem pushCycle_cart_mapper (v : Byte) (s : State) : (pushCycle v s).cart.mapper = s.cart.mapper := by
  simp [pushCycle]

@[simp] theorem pushCycle_inputs (v : Byte) (s : State) : (pushCycle v s).inputs = s.inputs := by
  simp [pushCycle]

@[simp] theorem pushCycle_fault (v : Byte) (s : State) : (pushCycle v s).fault = s.fault := by
  simp [pushCycle]

@[simp] theorem pushCycle_host (v : Byte) (s : State) : (pushCycle v s).host = s.host := by
  simp [pushCycle]

@[simp] theorem pushCycle_params (v : Byte) (s : State) : (pushCycle v s).params = s.params := by
  simp [pushCycle]

@[simp] theorem prePullCycle_cpu (s : State) : (prePullCycle s).cpu = { s.cpu with s := s.cpu.s + 1 } := by
  simp [prePullCycle]

@[simp] theorem prePullCycle_ram (s : State) : (prePullCycle s).ram = s.ram := by
  simp [prePullCycle]

@[simp] theorem prePullCycle_cart_rom (s : State) : (prePullCycle s).cart.rom = s.cart.rom := by
  simp [prePullCycle]

@[simp] theorem prePullCycle_cart_mapper (s : State) : (prePullCycle s).cart.mapper = s.cart.mapper := by
  simp [prePullCycle]

@[simp] theorem prePullCycle_inputs (s : State) : (prePullCycle s).inputs = s.inputs := by
  simp [prePullCycle]

@[simp] theorem prePullCycle_fault (s : State) : (prePullCycle s).fault = s.fault := by
  simp [prePullCycle]

@[simp] theorem prePullCycle_host (s : State) : (prePullCycle s).host = s.host := by
  simp [prePullCycle]

@[simp] theorem prePullCycle_params (s : State) : (prePullCycle s).params = s.params := by
  simp [prePullCycle]

@[simp] theorem stackReadCycle_cpu (s : State) : ((stackReadCycle s).2).cpu = s.cpu := by
  simp [stackReadCycle]

@[simp] theorem stackReadCycle_ram (s : State) : ((stackReadCycle s).2).ram = s.ram := by
  simp [stackReadCycle]

@[simp] theorem stackReadCycle_cart_rom (s : State) : ((stackReadCycle s).2).cart.rom = s.cart.rom := by
  simp [stackReadCycle]

@[simp] theorem stackReadCycle_cart_mapper (s : State) : ((stackReadCycle s).2).cart.mapper = s.cart.mapper := by
  simp [stackReadCycle]

@[simp] theorem stackReadCycle_inputs (s : State) : ((stackReadCycle s).2).inputs = s.inputs := by
  simp [stackReadCycle]

@[simp] theorem stackReadCycle_fault (s : State) : ((stackReadCycle s).2).fault = s.fault := by
  simp [stackReadCycle]

@[simp] theorem stackReadCycle_host (s : State) : ((stackReadCycle s).2).host = s.host := by
  simp [stackReadCycle]

@[simp] theorem stackReadCycle_params (s : State) : ((stackReadCycle s).2).params = s.params := by
  simp [stackReadCycle]

@[simp] theorem pullThenUp_cpu (s : State) : (pullThenUp s).2.cpu = { s.cpu with s := s.cpu.s + 1 } := by
  simp [pullThenUp]

@[simp] theorem pullThenUp_ram (s : State) : ((pullThenUp s).2).ram = s.ram := by
  simp [pullThenUp]

@[simp] theorem pullThenUp_cart_rom (s : State) : ((pullThenUp s).2).cart.rom = s.cart.rom := by
  simp [pullThenUp]

@[simp] theorem pullThenUp_cart_mapper (s : State) : ((pullThenUp s).2).cart.mapper = s.cart.mapper := by
  simp [pullThenUp]

@[simp] theorem pullThenUp_inputs (s : State) : ((pullThenUp s).2).inputs = s.inputs := by
  simp [pullThenUp]

@[simp] theorem pullThenUp_fault (s : State) : ((pullThenUp s).2).fault = s.fault := by
  simp [pullThenUp]

@[simp] theorem pullThenUp_host (s : State) : ((pullThenUp s).2).host = s.host := by
  simp [pullThenUp]

@[simp] theorem pullThenUp_params (s : State) : ((pullThenUp s).2).params = s.params := by
  simp [pullThenUp]

/-- With the stack byte in RAM a pull reads the byte RAM holds. -/
theorem stackReadCycle_of_isRam {s : State} (h : isRam (stackAddr s.cpu.s) = true) :
    (stackReadCycle s).1 = s.ramAt (stackAddr s.cpu.s) :=
  readCycle_of_isRam h s

/-- Pushing PC moves S down by two. -/
@[simp] theorem pushPc_cpu (s : State) : (pushPc s).cpu = { s.cpu with s := s.cpu.s - 2 } := by
  simp only [pushPc, pushCycle_cpu]
  congr 1
  generalize s.cpu.s = b
  bv_omega

/-- Pushing PC stores its high byte at the stack address and its low byte below it. -/
@[simp] theorem pushPc_ram (s : State) :
    (pushPc s).ram = storeRam (stackAddr (s.cpu.s - 1)) (loByte s.cpu.pc)
      (storeRam (stackAddr s.cpu.s) (hiByte s.cpu.pc) s.ram) := by
  simp [pushPc]

@[simp] theorem pushPc_cart_rom (s : State) : (pushPc s).cart.rom = s.cart.rom := by
  simp [pushPc]

@[simp] theorem pushPc_cart_mapper (s : State) : (pushPc s).cart.mapper = s.cart.mapper := by
  simp [pushPc]

@[simp] theorem pushPc_inputs (s : State) : (pushPc s).inputs = s.inputs := by
  simp [pushPc]

@[simp] theorem pushPc_fault (s : State) : (pushPc s).fault = s.fault := by
  simp [pushPc]

@[simp] theorem pushPc_host (s : State) : (pushPc s).host = s.host := by
  simp [pushPc]

@[simp] theorem pushPc_params (s : State) : (pushPc s).params = s.params := by
  simp [pushPc]

@[simp] theorem jumpThroughVector_ram (v : Word) (s : State) : ((jumpThroughVector v s)).ram = s.ram := by
  simp [jumpThroughVector]

@[simp] theorem jumpThroughVector_cart_rom (v : Word) (s : State) : ((jumpThroughVector v s)).cart.rom = s.cart.rom := by
  simp [jumpThroughVector]

@[simp] theorem jumpThroughVector_cart_mapper (v : Word) (s : State) : ((jumpThroughVector v s)).cart.mapper = s.cart.mapper := by
  simp [jumpThroughVector]

@[simp] theorem jumpThroughVector_inputs (v : Word) (s : State) : ((jumpThroughVector v s)).inputs = s.inputs := by
  simp [jumpThroughVector]

@[simp] theorem jumpThroughVector_fault (v : Word) (s : State) : ((jumpThroughVector v s)).fault = s.fault := by
  simp [jumpThroughVector]

@[simp] theorem jumpThroughVector_host (v : Word) (s : State) : ((jumpThroughVector v s)).host = s.host := by
  simp [jumpThroughVector]

@[simp] theorem jumpThroughVector_params (v : Word) (s : State) : ((jumpThroughVector v s)).params = s.params := by
  simp [jumpThroughVector]

@[simp] theorem jumpThroughVector_cpu (v : Word) (s : State) :
    (jumpThroughVector v s).cpu
      = { s.cpu with pc := mkWord (readCycle (v + 1) (readCycle v s).2).1 (readCycle v s).1 } := by
  simp [jumpThroughVector]

end Sys2Proof.Machine
end

