-- ==== Sys2Proof/Laws/Cpu.lean ====
section
/-! SUPPORT. A bus cycle does not depend on the CPU registers: a change of registers passes through it. With these laws
a run of cycles with register changes between them is the run of cycles, then one change. -/

namespace Sys2Proof.Machine

theorem State.setPc_eq_mapCpu (a : Word) (s : State) : s.setPc a = s.mapCpu fun c => { c with pc := a } := rfl

theorem State.mapCpu_eq (f : Cpu → Cpu) (s : State) : s.mapCpu f = { s with cpu := f s.cpu } := rfl

@[simp] theorem State.mapCpu_mapCpu (f g : Cpu → Cpu) (s : State) : (s.mapCpu f).mapCpu g = s.mapCpu fun c => g (f c) :=
  rfl

@[simp] theorem State.mapCpu_id (s : State) : (s.mapCpu fun c => c) = s := rfl

@[simp] theorem busRead_mapCpu (a : Word) (f : Cpu → Cpu) (s : State) :
    busRead a (s.mapCpu f) = ((busRead a s).1, (busRead a s).2.mapCpu f) := by
  unfold busRead
  split <;> rfl

@[simp] theorem busWrite_mapCpu (a : Word) (v : Byte) (f : Cpu → Cpu) (s : State) :
    busWrite a v (s.mapCpu f) = (busWrite a v s).mapCpu f := by
  unfold busWrite
  split <;> rfl

@[simp] theorem busDeferred_mapCpu (a : Word) (f : Cpu → Cpu) (s : State) :
    busDeferred a (s.mapCpu f) = (busDeferred a s).mapCpu f := by
  unfold busDeferred
  split <;> rfl

@[simp] theorem ticks_mapCpu (f : Cpu → Cpu) (s : State) : ticks (s.mapCpu f) = (ticks s).mapCpu f := rfl

theorem holdFor_mapCpu (n : Nat) (f : Cpu → Cpu) (s : State) : holdFor n (s.mapCpu f) = (holdFor n s).mapCpu f := by
  induction n generalizing s with
  | zero => rfl
  | succ n ih => unfold holdFor; simp only [State.mapCpu_tia, ticks_mapCpu, ih]; split <;> rfl

@[simp] theorem hold_mapCpu (f : Cpu → Cpu) (s : State) : hold (s.mapCpu f) = (hold s).mapCpu f := holdFor_mapCpu 76 f s

@[simp] theorem readCycle_mapCpu (a : Word) (f : Cpu → Cpu) (s : State) :
    readCycle a (s.mapCpu f) = ((readCycle a s).1, (readCycle a s).2.mapCpu f) := by
  simp [readCycle]

@[simp] theorem dummyRead_mapCpu (a : Word) (f : Cpu → Cpu) (s : State) :
    dummyRead a (s.mapCpu f) = (dummyRead a s).mapCpu f := by
  simp [dummyRead]

@[simp] theorem writeCycle_mapCpu (a : Word) (v : Byte) (f : Cpu → Cpu) (s : State) :
    writeCycle a v (s.mapCpu f) = (writeCycle a v s).mapCpu f := by
  simp [writeCycle]

/-- A push, as its write and the change of S. -/
theorem pushCycle_eq (v : Byte) (s : State) :
    pushCycle v s = (writeCycle (stackAddr s.cpu.s) v s).mapCpu fun c => { c with s := c.s - 1 } := rfl

/-- The two pushes of PC, as their writes and the change of S. -/
theorem pushPc_eq (s : State) :
    pushPc s = (writeCycle (stackAddr (s.cpu.s - 1)) (loByte s.cpu.pc)
      (writeCycle (stackAddr s.cpu.s) (hiByte s.cpu.pc) s)).mapCpu fun c => { c with s := c.s - 1 - 1 } := by
  simp [pushPc, pushCycle]

/-- The cycle pulls begin with, as its dummy read and the change of S. -/
theorem prePullCycle_eq (s : State) :
    prePullCycle s = (dummyRead (stackAddr s.cpu.s) s).mapCpu fun c => { c with s := c.s + 1 } := rfl

end Sys2Proof.Machine
end

