-- ==== Sys2Proof/Laws/Decode.lean ====
section
/-! SUPPORT. What the opcode table says of each opcode byte, row by row, and the bytes of a word. -/

namespace Sys2Proof

open Sys2Proof.Machine (loByte hiByte mkWord)

theorem mkWord_hiByte_loByte (w : Word) : mkWord (hiByte w) (loByte w) = w := by
  apply BitVec.eq_of_toNat_eq
  simp
  omega

theorem hiByte_mkWord (h l : Byte) : hiByte (mkWord h l) = h := by
  have := l.isLt
  apply BitVec.eq_of_toNat_eq
  simp
  omega

theorem loByte_mkWord (h l : Byte) : loByte (mkWord h l) = l := by
  have := l.isLt
  apply BitVec.eq_of_toNat_eq
  simp
  omega

/-- A shape encodes back to the opcode byte it is listed for. -/
def Shape.Encodes (op : Byte) : Shape → Prop
  | .bare i => i.wf = true ∧ encode i = [op]
  | .byte f => ∀ b, (f b).wf = true ∧ encode (f b) = [op, b]
  | .word f => ∀ w, (f w).wf = true ∧ encode (f w) = encodeWord op w
  | .call f => ∀ w, (f w).wf = true ∧ encode (f w) = encodeWord op w

theorem lookupShape_mem {t : List (Byte × Shape)} {op : Byte} {sh : Shape} (h : lookupShape t op = some sh) :
    (op, sh) ∈ t := by
  induction t with
  | nil => simp [lookupShape] at h
  | cons r t ih =>
    by_cases hr : op = r.1
    · simp [lookupShape, hr] at h
      simp [hr, ← h]
    · simp [lookupShape, hr] at h
      simp [ih h]

/-- Every row of the table encodes back to its opcode byte. -/
theorem opcodeTable_encodes : ∀ r ∈ opcodeTable, r.2.Encodes r.1 := by
  simp only [opcodeTable, loadStoreOpcodes, transferOpcodes, arithLogicOpcodes, shiftIncDecOpcodes, controlOpcodes,
    stackFlagOpcodes, List.cons_append, List.nil_append, List.forall_mem_cons]
  repeat' apply And.intro
  all_goals first
    | rfl
    | exact fun _ => ⟨rfl, rfl⟩
    | simp

/-- JSR is the only row whose high byte is fetched late (43_control_transfer.md R250). -/
theorem opcodeTable_call : ∀ r ∈ opcodeTable, ∀ f, r.2 = .call f → f = .jsr := by
  simp only [opcodeTable, loadStoreOpcodes, transferOpcodes, arithLogicOpcodes, shiftIncDecOpcodes, controlOpcodes,
    stackFlagOpcodes, List.cons_append, List.nil_append, List.forall_mem_cons]
  repeat' apply And.intro
  all_goals first
    | (intro f h; cases h; done)
    | (intro f h; injection h with h; exact h.symm)

/-- A byte that no row lists is one of R110's. -/
theorem undocumented_of_lookupShape_none : ∀ op : Byte, lookupShape opcodeTable op = none → op ∈ undocumentedBytes := by
  have h : ∀ n : Fin 256,
      ((lookupShape opcodeTable (BitVec.ofFin n)).isSome || undocumentedBytes.contains (BitVec.ofFin n)) = true := by
    decide +kernel
  intro op hop
  have := h op.toFin
  rw [show BitVec.ofFin op.toFin = op from rfl, hop] at this
  simpa using this

/-- R110's bytes are in no row. -/
theorem shapeOf_undocumented {op : Byte} (h : op ∈ undocumentedBytes) : shapeOf op = .bare (.unimpl op) := by
  have key : (undocumentedBytes.all fun op => (lookupShape opcodeTable op).isNone) = true := by decide +kernel
  have := List.all_eq_true.1 key op h
  simp only [shapeOf, Option.isNone_iff_eq_none.1 this]

/-- The shape of every opcode byte encodes back to it. -/
theorem shapeOf_encodes (op : Byte) : (shapeOf op).Encodes op := by
  unfold shapeOf
  split
  · next sh h => exact opcodeTable_encodes _ (lookupShape_mem h)
  · next h => exact ⟨by simpa [Instr.wf] using undocumented_of_lookupShape_none op h, rfl⟩

end Sys2Proof
end

