-- ==== Sys2Proof/Laws/Tia.lean ====
section
/-! SUPPORT. One TIA tick field by field (60_exceptions.md R344), the end of a line (R345), and what a TIA write can
change (R341, R371). -/

namespace Sys2Proof.Machine

@[simp] theorem Tia.draw_hcount (p : Params) (t : Tia) : (t.draw p).hcount = t.hcount := rfl
@[simp] theorem Tia.draw_vcount (p : Params) (t : Tia) : (t.draw p).vcount = t.vcount := rfl
@[simp] theorem Tia.draw_waiting (p : Params) (t : Tia) : (t.draw p).waiting = t.waiting := rfl
@[simp] theorem Tia.draw_regs (p : Params) (t : Tia) : (t.draw p).regs = t.regs := rfl
@[simp] theorem Tia.draw_latch4 (p : Params) (t : Tia) : (t.draw p).latch4 = t.latch4 := rfl
@[simp] theorem Tia.draw_latch5 (p : Params) (t : Tia) : (t.draw p).latch5 = t.latch5 := rfl
@[simp] theorem Tia.draw_raster (p : Params) (t : Tia) : (t.draw p).raster = t.raster := rfl
@[simp] theorem Tia.draw_frames (p : Params) (t : Tia) : (t.draw p).frames = t.frames := rfl

@[simp] theorem Tia.endOfLine_hcount (p : Params) (t : Tia) : (t.endOfLine p).hcount = 0 := rfl
@[simp] theorem Tia.endOfLine_vcount (p : Params) (t : Tia) : (t.endOfLine p).vcount = (t.vcount + 1) % 262 := rfl
@[simp] theorem Tia.endOfLine_waiting (p : Params) (t : Tia) : (t.endOfLine p).waiting = false := rfl
@[simp] theorem Tia.endOfLine_regs (p : Params) (t : Tia) : (t.endOfLine p).regs = t.regs := rfl
@[simp] theorem Tia.endOfLine_pos (p : Params) (t : Tia) : (t.endOfLine p).pos = t.pos := rfl
@[simp] theorem Tia.endOfLine_motion (p : Params) (t : Tia) : (t.endOfLine p).motion = t.motion := rfl
@[simp] theorem Tia.endOfLine_pfbit (p : Params) (t : Tia) : (t.endOfLine p).pfbit = t.pfbit := rfl
@[simp] theorem Tia.endOfLine_cx (p : Params) (t : Tia) : (t.endOfLine p).cx = t.cx := rfl
@[simp] theorem Tia.endOfLine_latch4 (p : Params) (t : Tia) : (t.endOfLine p).latch4 = t.latch4 := rfl
@[simp] theorem Tia.endOfLine_latch5 (p : Params) (t : Tia) : (t.endOfLine p).latch5 = t.latch5 := rfl
@[simp] theorem Tia.endOfLine_line (p : Params) (t : Tia) : (t.endOfLine p).line = [] := rfl

/-- A tick advances `hcount`, and ends the line at 228 (R344, R345). -/
theorem Tia.tick_hcount (p : Params) (t : Tia) :
    (t.tick p).hcount = if 228 ≤ t.hcount + 1 then 0 else t.hcount + 1 := by
  unfold Tia.tick Tia.advance
  by_cases h : 228 ≤ t.hcount + 1 <;> simp only [Tia.draw_hcount, h, if_true, if_false] <;> rfl

/-- `vcount` moves at the end of a line only (R345, R352). -/
theorem Tia.tick_vcount (p : Params) (t : Tia) :
    (t.tick p).vcount = if 228 ≤ t.hcount + 1 then (t.vcount + 1) % 262 else t.vcount := by
  unfold Tia.tick Tia.advance
  by_cases h : 228 ≤ t.hcount + 1 <;> simp only [Tia.draw_hcount, h, if_true, if_false] <;> rfl

/-- The wait latch clears at the end of a line only (R346). -/
theorem Tia.tick_waiting (p : Params) (t : Tia) :
    (t.tick p).waiting = if 228 ≤ t.hcount + 1 then false else t.waiting := by
  unfold Tia.tick Tia.advance
  by_cases h : 228 ≤ t.hcount + 1 <;> simp only [Tia.draw_hcount, h, if_true, if_false] <;> rfl

/-- A tick writes no register. -/
@[simp] theorem Tia.tick_regs (p : Params) (t : Tia) : (t.tick p).regs = t.regs := by
  unfold Tia.tick Tia.advance
  by_cases h : 228 ≤ t.hcount + 1 <;> simp only [Tia.draw_hcount, h, if_true, if_false] <;> rfl

@[simp] theorem Tia.tick_latch4 (p : Params) (t : Tia) : (t.tick p).latch4 = t.latch4 := by
  unfold Tia.tick Tia.advance
  by_cases h : 228 ≤ t.hcount + 1 <;> simp only [Tia.draw_hcount, h, if_true, if_false] <;> rfl

@[simp] theorem Tia.tick_latch5 (p : Params) (t : Tia) : (t.tick p).latch5 = t.latch5 := by
  unfold Tia.tick Tia.advance
  by_cases h : 228 ≤ t.hcount + 1 <;> simp only [Tia.draw_hcount, h, if_true, if_false] <;> rfl

/-- A tick moves the counters as R344 says. -/
@[simp] theorem Tia.tick_pos (p : Params) (t : Tia) :
    (t.tick p).pos = t.pos.tick p t.regs t.motion (motionClock t.motion.ext t.hcount) := by
  unfold Tia.tick Tia.advance
  by_cases h : 228 ≤ t.hcount + 1 <;> simp only [Tia.draw_hcount, h, if_true, if_false] <;> rfl

/-- A tick latches the playfield bit as R361 says. -/
@[simp] theorem Tia.tick_pfbit (p : Params) (t : Tia) : (t.tick p).pfbit = t.latchedPf := by
  unfold Tia.tick Tia.advance
  by_cases h : 228 ≤ t.hcount + 1 <;> simp only [Tia.draw_hcount, h, if_true, if_false] <;> rfl

/-- A tick detects collisions as R390 says. -/
@[simp] theorem Tia.tick_cx (p : Params) (t : Tia) :
    (t.tick p).cx
      = if t.detects p then t.cx.collide (activeSet p t.regs t.pos t.latchedPf) else t.cx := by
  unfold Tia.tick Tia.advance
  by_cases h : 228 ≤ t.hcount + 1 <;> simp only [Tia.draw_hcount, h, if_true, if_false] <;> rfl

/-- A tick advances the motion window, and ends the extended blank when `hcount` reaches 76 (R344, R375). -/
theorem Tia.tick_motion (p : Params) (t : Tia) :
    (t.tick p).motion
      = { t.motion.advance p with ext := (t.motion.advance p).ext && decide (t.hcount + 1 ≠ 76) } := by
  unfold Tia.tick Tia.advance
  by_cases h : 228 ≤ t.hcount + 1 <;> simp only [Tia.draw_hcount, h, if_true, if_false] <;> rfl

/-- The row is written at the visible clocks and starts afresh at the end of a line (R344, R395). -/
theorem Tia.tick_line (p : Params) (t : Tia) :
    (t.tick p).line = if 228 ≤ t.hcount + 1 then [] else (t.draw p).line := by
  unfold Tia.tick Tia.advance
  by_cases h : 228 ≤ t.hcount + 1 <;> simp only [Tia.draw_hcount, h, if_true, if_false] <;> rfl

/-- The raster changes at the end of a line only (R345, R395, R396). -/
theorem Tia.tick_raster (p : Params) (t : Tia) :
    (t.tick p).raster
      = if 228 ≤ t.hcount + 1 then
          (if (t.vcount + 1) % 262 = 0 then [] else (t.draw p).committed p)
        else t.raster := by
  unfold Tia.tick Tia.advance
  by_cases h : 228 ≤ t.hcount + 1 <;> simp only [Tia.draw_hcount, h, if_true, if_false] <;> rfl

/-- A frame is handed off when `vcount` becomes 0, and none is ever changed (R396). -/
theorem Tia.tick_frames (p : Params) (t : Tia) :
    (t.tick p).frames
      = if 228 ≤ t.hcount + 1 ∧ (t.vcount + 1) % 262 = 0 then (t.draw p).committed p :: t.frames else t.frames := by
  unfold Tia.tick Tia.advance
  by_cases h : 228 ≤ t.hcount + 1 <;> by_cases hv : (t.vcount + 1) % 262 = 0 <;>
    simp [Tia.endOfLine, Tia.committed, h, hv]

@[simp] theorem Tia.tick3_regs (p : Params) (t : Tia) : (t.tick3 p).regs = t.regs := by simp [Tia.tick3]
@[simp] theorem Tia.tick3_latch4 (p : Params) (t : Tia) : (t.tick3 p).latch4 = t.latch4 := by simp [Tia.tick3]
@[simp] theorem Tia.tick3_latch5 (p : Params) (t : Tia) : (t.tick3 p).latch5 = t.latch5 := by simp [Tia.tick3]

/-- Three ticks that do not reach the end of the line. -/
theorem Tia.tick3_hcount_of_lt {t : Tia} (h : t.hcount + 3 < 228) (p : Params) :
    (t.tick3 p).hcount = t.hcount + 3 := by
  simp only [Tia.tick3, Tia.tick_hcount]
  split_ifs <;> omega

/-- A predicate of the TIA that a tick keeps is kept by the three of a cycle. -/
theorem Tia.tick3_induct {P : Tia → Prop} {p : Params} (h : ∀ t, P t → P (t.tick p)) {t : Tia} (ht : P t) :
    P (t.tick3 p) :=
  h _ (h _ (h _ ht))

/-- A TIA tick keeps the beam in range, but for the alignment that three of them keep (R356). -/
theorem Tia.tick3_beamInRange {t : Tia} (h : BeamInRange t) (p : Params) : BeamInRange (t.tick3 p) := by
  obtain ⟨h1, h2, h3⟩ := h
  simp only [BeamInRange, Tia.tick3, Tia.tick_hcount, Tia.tick_vcount]
  refine ⟨?_, ?_, ?_⟩ <;> split_ifs <;> omega

/-- A write of a register stores the masked byte there; a strobe stores nothing. -/
theorem TiaRegs.stored_write_self (p : Params) (r : TiaRegs) (reg : TiaReg) (w : Byte) :
    (r.write p reg w).stored reg = if reg.isStrobe then 0 else w := by cases reg <;> rfl

/-- HMCLR clears the five motion registers (R373). -/
theorem TiaRegs.stored_write_hmclr (p : Params) (r : TiaRegs) (w : Byte) :
    ∀ reg ∈ [TiaReg.hmp0, .hmp1, .hmm0, .hmm1, .hmbl], (r.write p .hmclr w).stored reg = 0 := by
  simp [TiaRegs.write, TiaRegs.stored]

/-- A write of a register leaves every other one, but for the five that HMCLR clears. -/
theorem TiaRegs.stored_write_of_ne {reg reg' : TiaReg} (h : reg' ≠ reg)
    (hc : reg = .hmclr → reg' ∉ [TiaReg.hmp0, .hmp1, .hmm0, .hmm1, .hmbl]) (p : Params) (r : TiaRegs) (w : Byte) :
    (r.write p reg w).stored reg' = r.stored reg' := by
  cases reg <;> cases reg' <;> first | rfl | exact absurd rfl h | exact absurd (by decide) (hc rfl)

/-- Which register a TIA write changes the stored registers by: a write with no register changes none. -/
theorem Tia.write_regs (p : Params) (t : Tia) (o : BitVec 6) (v : Byte) :
    (t.write p o v).regs
      = match tiaRegAt o with
        | some reg => t.regs.write p reg (v &&& reg.mask)
        | none => t.regs := by
  unfold Tia.write
  cases tiaRegAt o with
  | none => rfl
  | some reg => cases reg <;> simp only [Tia.writeReg] <;> (try split) <;> rfl

/-- A TIA write moves the beam only where a VSYNC write starts a frame (R354). -/
@[simp] theorem Tia.write_hcount (p : Params) (t : Tia) (o : BitVec 6) (v : Byte) :
    (t.write p o v).hcount = t.hcount := by
  unfold Tia.write
  cases tiaRegAt o with
  | none => rfl
  | some reg => cases reg <;> simp only [Tia.writeReg] <;> (try split) <;> rfl

theorem Tia.write_vcount (p : Params) (t : Tia) (o : BitVec 6) (v : Byte) :
    (t.write p o v).vcount = t.vcount ∨ (t.write p o v).vcount = 0 := by
  unfold Tia.write
  cases tiaRegAt o with
  | none => simp
  | some reg => cases reg <;> simp only [Tia.writeReg] <;> (try split) <;> simp [Tia.startFrame]

/-- Before the cycle's ticks a TIA write moves no object (R343). -/
@[simp] theorem Tia.write_pos (p : Params) (t : Tia) (o : BitVec 6) (v : Byte) : (t.write p o v).pos = t.pos := by
  unfold Tia.write
  cases tiaRegAt o with
  | none => rfl
  | some reg => cases reg <;> simp only [Tia.writeReg] <;> (try split) <;> rfl

@[simp] theorem Tia.write_line (p : Params) (t : Tia) (o : BitVec 6) (v : Byte) : (t.write p o v).line = t.line := by
  unfold Tia.write
  cases tiaRegAt o with
  | none => rfl
  | some reg => cases reg <;> simp only [Tia.writeReg] <;> (try split) <;> rfl

/-- A TIA write keeps the raster and the frames, or starts a frame (R354, R396). -/
theorem Tia.write_frames (p : Params) (t : Tia) (o : BitVec 6) (v : Byte) :
    ((t.write p o v).raster = t.raster ∧ (t.write p o v).frames = t.frames)
      ∨ ((t.write p o v).raster = [] ∧ (t.write p o v).frames = t.raster :: t.frames) := by
  unfold Tia.write
  cases tiaRegAt o with
  | none => simp
  | some reg => cases reg <;> simp only [Tia.writeReg] <;> (try split) <;> simp [Tia.startFrame]

/-- What a deferred effect can do: nothing, move one object, or end the line (R371, R384). -/
theorem Tia.deferred_cases (p : Params) (t : Tia) (o : BitVec 6) :
    t.deferred p o = t ∨ t.deferred p o = t.endOfLine p
      ∨ ∃ n, n < 160 ∧ (t.deferred p o = { t with pos := { t.pos with p0 := n } }
        ∨ t.deferred p o = { t with pos := { t.pos with p1 := n } }
        ∨ t.deferred p o = { t with pos := { t.pos with m0 := n } }
        ∨ t.deferred p o = { t with pos := { t.pos with m1 := n } }
        ∨ t.deferred p o = { t with pos := { t.pos with bl := n } }) := by
  have hs : ∀ a b, t.strobePosition a b < 160 := fun a b => by
    unfold Tia.strobePosition; split <;> exact Nat.mod_lt _ (by decide)
  unfold Tia.deferred
  cases tiaRegAt o with
  | none => simp
  | some reg =>
    cases reg <;> simp only [Tia.deferredReg, true_or]
    · cases p.rsyncEffect <;> simp
    · exact .inr (.inr ⟨_, hs _ _, .inl rfl⟩)
    · exact .inr (.inr ⟨_, hs _ _, .inr (.inl rfl)⟩)
    · exact .inr (.inr ⟨_, hs _ _, .inr (.inr (.inl rfl))⟩)
    · exact .inr (.inr ⟨_, hs _ _, .inr (.inr (.inr (.inl rfl)))⟩)
    · exact .inr (.inr ⟨_, hs _ _, .inr (.inr (.inr (.inr rfl)))⟩)

/-! The bits of a TIA read (60_exceptions.md R342). -/

@[simp] theorem drive2_bit7 (x y : Bool) (noise : Byte) : (drive2 x y noise).getLsbD 7 = x := by
  rw [drive2, BitVec.getLsbD_append, BitVec.getLsbD_append]; simp

@[simp] theorem drive2_bit6 (x y : Bool) (noise : Byte) : (drive2 x y noise).getLsbD 6 = y := by
  rw [drive2, BitVec.getLsbD_append, BitVec.getLsbD_append]; simp

theorem drive2_low (x y : Bool) (noise : Byte) {k : Nat} (h : k < 6) :
    (drive2 x y noise).getLsbD k = noise.getLsbD k := by
  rw [drive2, BitVec.getLsbD_append]; simp [h]

@[simp] theorem drive1_bit7 (x : Bool) (noise : Byte) : (drive1 x noise).getLsbD 7 = x := by
  rw [drive1, BitVec.getLsbD_append]; simp

theorem drive1_low (x : Bool) (noise : Byte) {k : Nat} (h : k < 7) :
    (drive1 x noise).getLsbD k = noise.getLsbD k := by
  rw [drive1, BitVec.getLsbD_append]; simp [h]

end Sys2Proof.Machine
end

