-- ==== Sys2Proof/Laws/Keeps.lean ====
section
/-! SUPPORT. What every CPU cycle keeps, every instruction and every step keeps: the shared induction of the claims about
all instructions. -/

namespace Sys2Proof.Machine

/-- A property that a change of CPU registers, the ticks of a cycle, a bus read and a write cycle at an address of `W` keep. -/
structure KeptByCycles (W : Word → Prop) (P : State → Prop) : Prop where
  cpu : ∀ (s : State) (c : Cpu), P s → P { s with cpu := c }
  ticks : ∀ s, P s → P (ticks s)
  read : ∀ a s, P s → P (busRead a s).2
  write : ∀ a v s, W a → P s → P (writeCycle a v s)

/-- A property of the next state, where the result is one. -/
def NextHas (P : State → Prop) (r : Result) : Prop := ∀ t, r = .next t → P t

theorem NextHas.next {P : State → Prop} {t : State} (h : P t) : NextHas P (.next t) := by
  intro u hu
  cases hu
  exact h

theorem NextHas.fault {P : State → Prop} {f : Fault} : NextHas P (.fault f) := by
  intro u hu
  cases hu

namespace KeptByCycles

variable {W : Word → Prop} {P : State → Prop} (K : KeptByCycles W P) {s : State}
include K

theorem mapCpu (f : Cpu → Cpu) (h : P s) : P (s.mapCpu f) := K.cpu s (f s.cpu) h

theorem setPc (a : Word) (h : P s) : P (s.setPc a) := K.cpu s { s.cpu with pc := a } h

theorem holdFor (n : Nat) (h : P s) : P (Machine.holdFor n s) := by
  induction n generalizing s with
  | zero => exact h
  | succ n ih =>
    unfold Machine.holdFor
    split
    · exact ih (K.ticks s h)
    · exact h

theorem hold (h : P s) : P (Machine.hold s) := K.holdFor 76 h

theorem readCycle (a : Word) (h : P s) : P (readCycle a s).2 := K.ticks _ (K.read a _ (K.hold h))

theorem dummyRead (a : Word) (h : P s) : P (dummyRead a s) := K.readCycle a h

theorem fetchByte (h : P s) : P (fetchByte s).2 :=
  K.mapCpu (fun c => { c with pc := c.pc + 1 }) (K.readCycle s.cpu.pc h)

theorem pushCycle (v : Byte) (hw : W (stackAddr s.cpu.s)) (h : P s) : P (pushCycle v s) :=
  K.mapCpu _ (K.write _ _ _ hw h)

theorem pushPc (hw : W (stackAddr s.cpu.s)) (hw' : W (stackAddr (s.cpu.s - 1))) (h : P s) : P (pushPc s) :=
  K.pushCycle _ (by simpa using hw') (K.pushCycle _ hw h)

theorem prePullCycle (h : P s) : P (prePullCycle s) := K.mapCpu _ (K.dummyRead _ h)

theorem stackReadCycle (h : P s) : P (stackReadCycle s).2 := K.readCycle _ h

theorem pullThenUp (h : P s) : P (pullThenUp s).2 :=
  K.mapCpu (fun c => { c with s := c.s + 1 }) (K.stackReadCycle h)

theorem jumpThroughVector (v : Word) (h : P s) : P (jumpThroughVector v s) :=
  K.setPc _ (K.readCycle _ (K.readCycle _ h))

theorem takeTrap (hw : W (stackAddr s.cpu.s)) (hw' : W (stackAddr (s.cpu.s - 1))) (hw'' : W (stackAddr (s.cpu.s - 2)))
    (h : P s) : P (takeTrap s) := by
  have hs : s.cpu.s - 2 = s.cpu.s - 1 - 1 := by bv_omega
  exact K.jumpThroughVector _ (K.mapCpu _ (K.pushCycle _ (by simpa [pushPc_cpu, hs] using hw'') (K.pushPc hw hw' h)))

theorem returnFromTrap (h : P s) : P (returnFromTrap s) :=
  K.setPc _ (K.stackReadCycle (K.pullThenUp (K.mapCpu _ (K.pullThenUp (K.prePullCycle (K.dummyRead _ h))))))

theorem indexCycles (always : Bool) (base : Word) (idx : Byte) (h : P s) : P (indexCycles always base idx s).2 := by
  unfold Machine.indexCycles
  dsimp only
  split
  · exact K.dummyRead _ h
  · exact h

theorem zpPointer (b : Byte) (h : P s) : P (zpPointer b s).2 := K.readCycle _ (K.readCycle _ h)

theorem effAddr (always : Bool) (m : Addr) (h : P s) : P (effAddr always m s).2 := by
  cases m with
  | zp b => exact h
  | zpx b => exact K.dummyRead _ h
  | zpy b => exact K.dummyRead _ h
  | abs w => exact h
  | absx w => exact K.indexCycles _ _ _ h
  | absy w => exact K.indexCycles _ _ _ h
  | indx b => exact K.zpPointer _ (K.dummyRead _ h)
  | indy b => exact K.indexCycles _ _ _ (K.zpPointer _ h)

theorem readClass (f : Byte → Cpu → Cpu) (m : Addr) (h : P s) : NextHas P (readClass f m s) :=
  .next (K.mapCpu _ (K.readCycle _ (K.effAddr _ _ h)))

theorem immClass (f : Byte → Cpu → Cpu) (v : Byte) (h : P s) : NextHas P (immClass f v s) := .next (K.mapCpu _ h)

theorem writeClass (f : Cpu → Byte) (m : Addr) (hw : W (Machine.effAddr true m s).1) (h : P s) :
    NextHas P (writeClass f m s) :=
  .next (K.write _ _ _ hw (K.effAddr _ _ h))

theorem rmwClass (f : Flags → Byte → Byte × Flags) (m : Addr) (hw : W (Machine.effAddr true m s).1) (h : P s) :
    NextHas P (rmwClass f m s) :=
  .next (K.mapCpu _ (K.write _ _ _ hw (K.write _ _ _ hw (K.readCycle _ (K.effAddr _ _ h)))))

theorem impliedClass (f : Cpu → Cpu) (h : P s) : NextHas P (impliedClass f s) := .next (K.mapCpu _ (K.dummyRead _ h))

theorem accClass (f : Flags → Byte → Byte × Flags) (h : P s) : NextHas P (accClass f s) := K.impliedClass _ h

theorem branchIf (taken : Bool) (offset : Byte) (h : P s) : NextHas P (branchIf taken offset s) := by
  unfold Machine.branchIf
  cases taken with
  | false => exact .next h
  | true =>
    refine .next (K.setPc _ ?_)
    split
    · exact K.dummyRead _ h
    · exact K.dummyRead _ (K.dummyRead _ h)

/-- Whatever every cycle keeps, an instruction that stores at addresses of `W` alone keeps. -/
theorem exec (i : Instr) (hw : ∀ a ∈ stores i s, W a) (h : P s) : NextHas P (exec i s) :=
  match i with
  | .ldaImm b => K.immClass _ b h
  | .ldaZp b => K.readClass _ (.zp b) h
  | .ldaZpx b => K.readClass _ (.zpx b) h
  | .ldaAbs b => K.readClass _ (.abs b) h
  | .ldaAbsx b => K.readClass _ (.absx b) h
  | .ldaAbsy b => K.readClass _ (.absy b) h
  | .ldaIndx b => K.readClass _ (.indx b) h
  | .ldaIndy b => K.readClass _ (.indy b) h
  | .ldxImm b => K.immClass _ b h
  | .ldxZp b => K.readClass _ (.zp b) h
  | .ldxZpy b => K.readClass _ (.zpy b) h
  | .ldxAbs b => K.readClass _ (.abs b) h
  | .ldxAbsy b => K.readClass _ (.absy b) h
  | .ldyImm b => K.immClass _ b h
  | .ldyZp b => K.readClass _ (.zp b) h
  | .ldyZpx b => K.readClass _ (.zpx b) h
  | .ldyAbs b => K.readClass _ (.abs b) h
  | .ldyAbsx b => K.readClass _ (.absx b) h
  | .staZp b => K.writeClass _ (.zp b) (hw _ (.head _)) h
  | .staZpx b => K.writeClass _ (.zpx b) (hw _ (.head _)) h
  | .staAbs b => K.writeClass _ (.abs b) (hw _ (.head _)) h
  | .staAbsx b => K.writeClass _ (.absx b) (hw _ (.head _)) h
  | .staAbsy b => K.writeClass _ (.absy b) (hw _ (.head _)) h
  | .staIndx b => K.writeClass _ (.indx b) (hw _ (.head _)) h
  | .staIndy b => K.writeClass _ (.indy b) (hw _ (.head _)) h
  | .stxZp b => K.writeClass _ (.zp b) (hw _ (.head _)) h
  | .stxZpy b => K.writeClass _ (.zpy b) (hw _ (.head _)) h
  | .stxAbs b => K.writeClass _ (.abs b) (hw _ (.head _)) h
  | .styZp b => K.writeClass _ (.zp b) (hw _ (.head _)) h
  | .styZpx b => K.writeClass _ (.zpx b) (hw _ (.head _)) h
  | .styAbs b => K.writeClass _ (.abs b) (hw _ (.head _)) h
  | .tax => K.impliedClass _ h
  | .tay => K.impliedClass _ h
  | .txa => K.impliedClass _ h
  | .tya => K.impliedClass _ h
  | .tsx => K.impliedClass _ h
  | .txs => K.impliedClass _ h
  | .adcImm b => K.immClass _ b h
  | .adcZp b => K.readClass _ (.zp b) h
  | .adcZpx b => K.readClass _ (.zpx b) h
  | .adcAbs b => K.readClass _ (.abs b) h
  | .adcAbsx b => K.readClass _ (.absx b) h
  | .adcAbsy b => K.readClass _ (.absy b) h
  | .adcIndx b => K.readClass _ (.indx b) h
  | .adcIndy b => K.readClass _ (.indy b) h
  | .sbcImm b => K.immClass _ b h
  | .sbcZp b => K.readClass _ (.zp b) h
  | .sbcZpx b => K.readClass _ (.zpx b) h
  | .sbcAbs b => K.readClass _ (.abs b) h
  | .sbcAbsx b => K.readClass _ (.absx b) h
  | .sbcAbsy b => K.readClass _ (.absy b) h
  | .sbcIndx b => K.readClass _ (.indx b) h
  | .sbcIndy b => K.readClass _ (.indy b) h
  | .andImm b => K.immClass _ b h
  | .andZp b => K.readClass _ (.zp b) h
  | .andZpx b => K.readClass _ (.zpx b) h
  | .andAbs b => K.readClass _ (.abs b) h
  | .andAbsx b => K.readClass _ (.absx b) h
  | .andAbsy b => K.readClass _ (.absy b) h
  | .andIndx b => K.readClass _ (.indx b) h
  | .andIndy b => K.readClass _ (.indy b) h
  | .oraImm b => K.immClass _ b h
  | .oraZp b => K.readClass _ (.zp b) h
  | .oraZpx b => K.readClass _ (.zpx b) h
  | .oraAbs b => K.readClass _ (.abs b) h
  | .oraAbsx b => K.readClass _ (.absx b) h
  | .oraAbsy b => K.readClass _ (.absy b) h
  | .oraIndx b => K.readClass _ (.indx b) h
  | .oraIndy b => K.readClass _ (.indy b) h
  | .eorImm b => K.immClass _ b h
  | .eorZp b => K.readClass _ (.zp b) h
  | .eorZpx b => K.readClass _ (.zpx b) h
  | .eorAbs b => K.readClass _ (.abs b) h
  | .eorAbsx b => K.readClass _ (.absx b) h
  | .eorAbsy b => K.readClass _ (.absy b) h
  | .eorIndx b => K.readClass _ (.indx b) h
  | .eorIndy b => K.readClass _ (.indy b) h
  | .cmpImm b => K.immClass _ b h
  | .cmpZp b => K.readClass _ (.zp b) h
  | .cmpZpx b => K.readClass _ (.zpx b) h
  | .cmpAbs b => K.readClass _ (.abs b) h
  | .cmpAbsx b => K.readClass _ (.absx b) h
  | .cmpAbsy b => K.readClass _ (.absy b) h
  | .cmpIndx b => K.readClass _ (.indx b) h
  | .cmpIndy b => K.readClass _ (.indy b) h
  | .cpxImm b => K.immClass _ b h
  | .cpxZp b => K.readClass _ (.zp b) h
  | .cpxAbs b => K.readClass _ (.abs b) h
  | .cpyImm b => K.immClass _ b h
  | .cpyZp b => K.readClass _ (.zp b) h
  | .cpyAbs b => K.readClass _ (.abs b) h
  | .bitZp b => K.readClass _ (.zp b) h
  | .bitAbs b => K.readClass _ (.abs b) h
  | .aslAcc => K.accClass _ h
  | .aslZp b => K.rmwClass _ (.zp b) (hw _ (.head _)) h
  | .aslZpx b => K.rmwClass _ (.zpx b) (hw _ (.head _)) h
  | .aslAbs b => K.rmwClass _ (.abs b) (hw _ (.head _)) h
  | .aslAbsx b => K.rmwClass _ (.absx b) (hw _ (.head _)) h
  | .lsrAcc => K.accClass _ h
  | .lsrZp b => K.rmwClass _ (.zp b) (hw _ (.head _)) h
  | .lsrZpx b => K.rmwClass _ (.zpx b) (hw _ (.head _)) h
  | .lsrAbs b => K.rmwClass _ (.abs b) (hw _ (.head _)) h
  | .lsrAbsx b => K.rmwClass _ (.absx b) (hw _ (.head _)) h
  | .rolAcc => K.accClass _ h
  | .rolZp b => K.rmwClass _ (.zp b) (hw _ (.head _)) h
  | .rolZpx b => K.rmwClass _ (.zpx b) (hw _ (.head _)) h
  | .rolAbs b => K.rmwClass _ (.abs b) (hw _ (.head _)) h
  | .rolAbsx b => K.rmwClass _ (.absx b) (hw _ (.head _)) h
  | .rorAcc => K.accClass _ h
  | .rorZp b => K.rmwClass _ (.zp b) (hw _ (.head _)) h
  | .rorZpx b => K.rmwClass _ (.zpx b) (hw _ (.head _)) h
  | .rorAbs b => K.rmwClass _ (.abs b) (hw _ (.head _)) h
  | .rorAbsx b => K.rmwClass _ (.absx b) (hw _ (.head _)) h
  | .incZp b => K.rmwClass _ (.zp b) (hw _ (.head _)) h
  | .incZpx b => K.rmwClass _ (.zpx b) (hw _ (.head _)) h
  | .incAbs b => K.rmwClass _ (.abs b) (hw _ (.head _)) h
  | .incAbsx b => K.rmwClass _ (.absx b) (hw _ (.head _)) h
  | .decZp b => K.rmwClass _ (.zp b) (hw _ (.head _)) h
  | .decZpx b => K.rmwClass _ (.zpx b) (hw _ (.head _)) h
  | .decAbs b => K.rmwClass _ (.abs b) (hw _ (.head _)) h
  | .decAbsx b => K.rmwClass _ (.absx b) (hw _ (.head _)) h
  | .inx => K.impliedClass _ h
  | .iny => K.impliedClass _ h
  | .dex => K.impliedClass _ h
  | .dey => K.impliedClass _ h
  | .bpl b => K.branchIf _ b h
  | .bmi b => K.branchIf _ b h
  | .bvc b => K.branchIf _ b h
  | .bvs b => K.branchIf _ b h
  | .bcc b => K.branchIf _ b h
  | .bcs b => K.branchIf _ b h
  | .bne b => K.branchIf _ b h
  | .beq b => K.branchIf _ b h
  | .jmpAbs _ => .next (K.setPc _ h)
  | .jmpInd _ => .next (K.setPc _ (K.readCycle _ (K.readCycle _ h)))
  | .jsr _ =>
    .next (K.setPc _ (K.dummyRead _ (K.pushPc (by simpa using hw _ (.head _))
      (by simpa using hw _ (.tail _ (.head _))) (K.dummyRead _ h))))
  | .rts =>
    .next (K.setPc _ (K.dummyRead _ (K.stackReadCycle (K.pullThenUp (K.prePullCycle (K.dummyRead _ h))))))
  | .brk _ => .next (K.takeTrap (hw _ (.head _)) (hw _ (.tail _ (.head _))) (hw _ (.tail _ (.tail _ (.head _)))) h)
  | .rti => .next (K.returnFromTrap h)
  | .pha => .next (K.pushCycle _ (by simpa using hw _ (.head _)) (K.dummyRead _ h))
  | .php => .next (K.pushCycle _ (by simpa using hw _ (.head _)) (K.dummyRead _ h))
  | .pla => .next (K.mapCpu _ (K.stackReadCycle (K.prePullCycle (K.dummyRead _ h))))
  | .plp => .next (K.mapCpu _ (K.stackReadCycle (K.prePullCycle (K.dummyRead _ h))))
  | .clc => K.impliedClass _ h
  | .sec => K.impliedClass _ h
  | .cli => K.impliedClass _ h
  | .sei => K.impliedClass _ h
  | .cld => K.impliedClass _ h
  | .sed => K.impliedClass _ h
  | .clv => K.impliedClass _ h
  | .nop => K.impliedClass _ h
  | .unimpl _ => .fault

theorem fetchInstr (h : P s) : P (fetchInstr s).2 := by
  have h1 := K.fetchByte h
  unfold Machine.fetchInstr
  dsimp only
  split
  · exact h1
  · exact K.fetchByte h1
  · exact K.fetchByte (K.fetchByte h1)
  · exact K.fetchByte h1

theorem runInstruction (hw : ∀ a, W a) (h : P s) : NextHas P (runInstruction s) := K.exec _ (fun a _ => hw a) (K.fetchInstr h)

/-- Whatever every cycle, an input sample, a reset, a load and the taking of a host action keep, every step keeps. -/
theorem step (hw : ∀ a, W a) (hs : ∀ (i : Inputs) (s : State), P s → P (sampleInputs i s))
    (hr : ∀ s : State, P s → P (hostReset s))
    (hl : ∀ (rom : Rom) (id : MapperId) (s : State), P s → P { s with cart := { rom := rom, mapper := id, bank := 0 } })
    (hh : ∀ (l : List HostEvent) (s : State), P s → P { s with host := l }) (h : P s) : NextHas P (step s) := by
  have hc : ∀ (i : Inputs) (u : State), P u → NextHas P (cpuStep i u) := by
    intro i u hu
    unfold cpuStep
    split
    · split
      · exact .fault
      · exact K.runInstruction hw (hs _ _ hu)
    · exact .fault
  unfold Machine.step
  split
  · exact hc _ _ h
  · exact hc _ _ (hh _ _ h)
  · unfold takeReset
    split
    · exact .next (hr _ (hh _ _ h))
    · exact .fault
  · next rom id rest _ =>
    unfold loadCartridge
    dsimp only
    split
    · exact .next (hr _ (hl rom id _ (hh rest s h)))
    · exact .fault

end KeptByCycles

end Sys2Proof.Machine
end

