-- ==== Sys2Proof/Laws/PerInstr.lean ====
section
/-! SUPPORT. Facts about the instructions as syntax, one lemma per constructor: the opcode byte alone gives the length of
the encoding (30_encoding.md R101). -/

namespace Sys2Proof.Laws.Encoding

open Sys2Proof

/-- The encoding of a well-formed instruction begins with a byte whose length is the encoding's (30_encoding.md R101). -/
def Statement (i : Instr) : Prop :=
  i.wf = true → ∃ op : Byte, (encode i).head? = some op ∧ (encode i).length = instrLength op

theorem ldaImm (x : Byte) : Statement (.ldaImm x) := fun _ => ⟨_, rfl, rfl⟩

theorem ldaZp (x : Byte) : Statement (.ldaZp x) := fun _ => ⟨_, rfl, rfl⟩

theorem ldaZpx (x : Byte) : Statement (.ldaZpx x) := fun _ => ⟨_, rfl, rfl⟩

theorem ldaAbs (x : Word) : Statement (.ldaAbs x) := fun _ => ⟨_, rfl, rfl⟩

theorem ldaAbsx (x : Word) : Statement (.ldaAbsx x) := fun _ => ⟨_, rfl, rfl⟩

theorem ldaAbsy (x : Word) : Statement (.ldaAbsy x) := fun _ => ⟨_, rfl, rfl⟩

theorem ldaIndx (x : Byte) : Statement (.ldaIndx x) := fun _ => ⟨_, rfl, rfl⟩

theorem ldaIndy (x : Byte) : Statement (.ldaIndy x) := fun _ => ⟨_, rfl, rfl⟩

theorem ldxImm (x : Byte) : Statement (.ldxImm x) := fun _ => ⟨_, rfl, rfl⟩

theorem ldxZp (x : Byte) : Statement (.ldxZp x) := fun _ => ⟨_, rfl, rfl⟩

theorem ldxZpy (x : Byte) : Statement (.ldxZpy x) := fun _ => ⟨_, rfl, rfl⟩

theorem ldxAbs (x : Word) : Statement (.ldxAbs x) := fun _ => ⟨_, rfl, rfl⟩

theorem ldxAbsy (x : Word) : Statement (.ldxAbsy x) := fun _ => ⟨_, rfl, rfl⟩

theorem ldyImm (x : Byte) : Statement (.ldyImm x) := fun _ => ⟨_, rfl, rfl⟩

theorem ldyZp (x : Byte) : Statement (.ldyZp x) := fun _ => ⟨_, rfl, rfl⟩

theorem ldyZpx (x : Byte) : Statement (.ldyZpx x) := fun _ => ⟨_, rfl, rfl⟩

theorem ldyAbs (x : Word) : Statement (.ldyAbs x) := fun _ => ⟨_, rfl, rfl⟩

theorem ldyAbsx (x : Word) : Statement (.ldyAbsx x) := fun _ => ⟨_, rfl, rfl⟩

theorem staZp (x : Byte) : Statement (.staZp x) := fun _ => ⟨_, rfl, rfl⟩

theorem staZpx (x : Byte) : Statement (.staZpx x) := fun _ => ⟨_, rfl, rfl⟩

theorem staAbs (x : Word) : Statement (.staAbs x) := fun _ => ⟨_, rfl, rfl⟩

theorem staAbsx (x : Word) : Statement (.staAbsx x) := fun _ => ⟨_, rfl, rfl⟩

theorem staAbsy (x : Word) : Statement (.staAbsy x) := fun _ => ⟨_, rfl, rfl⟩

theorem staIndx (x : Byte) : Statement (.staIndx x) := fun _ => ⟨_, rfl, rfl⟩

theorem staIndy (x : Byte) : Statement (.staIndy x) := fun _ => ⟨_, rfl, rfl⟩

theorem stxZp (x : Byte) : Statement (.stxZp x) := fun _ => ⟨_, rfl, rfl⟩

theorem stxZpy (x : Byte) : Statement (.stxZpy x) := fun _ => ⟨_, rfl, rfl⟩

theorem stxAbs (x : Word) : Statement (.stxAbs x) := fun _ => ⟨_, rfl, rfl⟩

theorem styZp (x : Byte) : Statement (.styZp x) := fun _ => ⟨_, rfl, rfl⟩

theorem styZpx (x : Byte) : Statement (.styZpx x) := fun _ => ⟨_, rfl, rfl⟩

theorem styAbs (x : Word) : Statement (.styAbs x) := fun _ => ⟨_, rfl, rfl⟩

theorem tax : Statement .tax := fun _ => ⟨_, rfl, rfl⟩

theorem tay : Statement .tay := fun _ => ⟨_, rfl, rfl⟩

theorem txa : Statement .txa := fun _ => ⟨_, rfl, rfl⟩

theorem tya : Statement .tya := fun _ => ⟨_, rfl, rfl⟩

theorem tsx : Statement .tsx := fun _ => ⟨_, rfl, rfl⟩

theorem txs : Statement .txs := fun _ => ⟨_, rfl, rfl⟩

theorem adcImm (x : Byte) : Statement (.adcImm x) := fun _ => ⟨_, rfl, rfl⟩

theorem adcZp (x : Byte) : Statement (.adcZp x) := fun _ => ⟨_, rfl, rfl⟩

theorem adcZpx (x : Byte) : Statement (.adcZpx x) := fun _ => ⟨_, rfl, rfl⟩

theorem adcAbs (x : Word) : Statement (.adcAbs x) := fun _ => ⟨_, rfl, rfl⟩

theorem adcAbsx (x : Word) : Statement (.adcAbsx x) := fun _ => ⟨_, rfl, rfl⟩

theorem adcAbsy (x : Word) : Statement (.adcAbsy x) := fun _ => ⟨_, rfl, rfl⟩

theorem adcIndx (x : Byte) : Statement (.adcIndx x) := fun _ => ⟨_, rfl, rfl⟩

theorem adcIndy (x : Byte) : Statement (.adcIndy x) := fun _ => ⟨_, rfl, rfl⟩

theorem sbcImm (x : Byte) : Statement (.sbcImm x) := fun _ => ⟨_, rfl, rfl⟩

theorem sbcZp (x : Byte) : Statement (.sbcZp x) := fun _ => ⟨_, rfl, rfl⟩

theorem sbcZpx (x : Byte) : Statement (.sbcZpx x) := fun _ => ⟨_, rfl, rfl⟩

theorem sbcAbs (x : Word) : Statement (.sbcAbs x) := fun _ => ⟨_, rfl, rfl⟩

theorem sbcAbsx (x : Word) : Statement (.sbcAbsx x) := fun _ => ⟨_, rfl, rfl⟩

theorem sbcAbsy (x : Word) : Statement (.sbcAbsy x) := fun _ => ⟨_, rfl, rfl⟩

theorem sbcIndx (x : Byte) : Statement (.sbcIndx x) := fun _ => ⟨_, rfl, rfl⟩

theorem sbcIndy (x : Byte) : Statement (.sbcIndy x) := fun _ => ⟨_, rfl, rfl⟩

theorem andImm (x : Byte) : Statement (.andImm x) := fun _ => ⟨_, rfl, rfl⟩

theorem andZp (x : Byte) : Statement (.andZp x) := fun _ => ⟨_, rfl, rfl⟩

theorem andZpx (x : Byte) : Statement (.andZpx x) := fun _ => ⟨_, rfl, rfl⟩

theorem andAbs (x : Word) : Statement (.andAbs x) := fun _ => ⟨_, rfl, rfl⟩

theorem andAbsx (x : Word) : Statement (.andAbsx x) := fun _ => ⟨_, rfl, rfl⟩

theorem andAbsy (x : Word) : Statement (.andAbsy x) := fun _ => ⟨_, rfl, rfl⟩

theorem andIndx (x : Byte) : Statement (.andIndx x) := fun _ => ⟨_, rfl, rfl⟩

theorem andIndy (x : Byte) : Statement (.andIndy x) := fun _ => ⟨_, rfl, rfl⟩

theorem oraImm (x : Byte) : Statement (.oraImm x) := fun _ => ⟨_, rfl, rfl⟩

theorem oraZp (x : Byte) : Statement (.oraZp x) := fun _ => ⟨_, rfl, rfl⟩

theorem oraZpx (x : Byte) : Statement (.oraZpx x) := fun _ => ⟨_, rfl, rfl⟩

theorem oraAbs (x : Word) : Statement (.oraAbs x) := fun _ => ⟨_, rfl, rfl⟩

theorem oraAbsx (x : Word) : Statement (.oraAbsx x) := fun _ => ⟨_, rfl, rfl⟩

theorem oraAbsy (x : Word) : Statement (.oraAbsy x) := fun _ => ⟨_, rfl, rfl⟩

theorem oraIndx (x : Byte) : Statement (.oraIndx x) := fun _ => ⟨_, rfl, rfl⟩

theorem oraIndy (x : Byte) : Statement (.oraIndy x) := fun _ => ⟨_, rfl, rfl⟩

theorem eorImm (x : Byte) : Statement (.eorImm x) := fun _ => ⟨_, rfl, rfl⟩

theorem eorZp (x : Byte) : Statement (.eorZp x) := fun _ => ⟨_, rfl, rfl⟩

theorem eorZpx (x : Byte) : Statement (.eorZpx x) := fun _ => ⟨_, rfl, rfl⟩

theorem eorAbs (x : Word) : Statement (.eorAbs x) := fun _ => ⟨_, rfl, rfl⟩

theorem eorAbsx (x : Word) : Statement (.eorAbsx x) := fun _ => ⟨_, rfl, rfl⟩

theorem eorAbsy (x : Word) : Statement (.eorAbsy x) := fun _ => ⟨_, rfl, rfl⟩

theorem eorIndx (x : Byte) : Statement (.eorIndx x) := fun _ => ⟨_, rfl, rfl⟩

theorem eorIndy (x : Byte) : Statement (.eorIndy x) := fun _ => ⟨_, rfl, rfl⟩

theorem cmpImm (x : Byte) : Statement (.cmpImm x) := fun _ => ⟨_, rfl, rfl⟩

theorem cmpZp (x : Byte) : Statement (.cmpZp x) := fun _ => ⟨_, rfl, rfl⟩

theorem cmpZpx (x : Byte) : Statement (.cmpZpx x) := fun _ => ⟨_, rfl, rfl⟩

theorem cmpAbs (x : Word) : Statement (.cmpAbs x) := fun _ => ⟨_, rfl, rfl⟩

theorem cmpAbsx (x : Word) : Statement (.cmpAbsx x) := fun _ => ⟨_, rfl, rfl⟩

theorem cmpAbsy (x : Word) : Statement (.cmpAbsy x) := fun _ => ⟨_, rfl, rfl⟩

theorem cmpIndx (x : Byte) : Statement (.cmpIndx x) := fun _ => ⟨_, rfl, rfl⟩

theorem cmpIndy (x : Byte) : Statement (.cmpIndy x) := fun _ => ⟨_, rfl, rfl⟩

theorem cpxImm (x : Byte) : Statement (.cpxImm x) := fun _ => ⟨_, rfl, rfl⟩

theorem cpxZp (x : Byte) : Statement (.cpxZp x) := fun _ => ⟨_, rfl, rfl⟩

theorem cpxAbs (x : Word) : Statement (.cpxAbs x) := fun _ => ⟨_, rfl, rfl⟩

theorem cpyImm (x : Byte) : Statement (.cpyImm x) := fun _ => ⟨_, rfl, rfl⟩

theorem cpyZp (x : Byte) : Statement (.cpyZp x) := fun _ => ⟨_, rfl, rfl⟩

theorem cpyAbs (x : Word) : Statement (.cpyAbs x) := fun _ => ⟨_, rfl, rfl⟩

theorem bitZp (x : Byte) : Statement (.bitZp x) := fun _ => ⟨_, rfl, rfl⟩

theorem bitAbs (x : Word) : Statement (.bitAbs x) := fun _ => ⟨_, rfl, rfl⟩

theorem aslAcc : Statement .aslAcc := fun _ => ⟨_, rfl, rfl⟩

theorem aslZp (x : Byte) : Statement (.aslZp x) := fun _ => ⟨_, rfl, rfl⟩

theorem aslZpx (x : Byte) : Statement (.aslZpx x) := fun _ => ⟨_, rfl, rfl⟩

theorem aslAbs (x : Word) : Statement (.aslAbs x) := fun _ => ⟨_, rfl, rfl⟩

theorem aslAbsx (x : Word) : Statement (.aslAbsx x) := fun _ => ⟨_, rfl, rfl⟩

theorem lsrAcc : Statement .lsrAcc := fun _ => ⟨_, rfl, rfl⟩

theorem lsrZp (x : Byte) : Statement (.lsrZp x) := fun _ => ⟨_, rfl, rfl⟩

theorem lsrZpx (x : Byte) : Statement (.lsrZpx x) := fun _ => ⟨_, rfl, rfl⟩

theorem lsrAbs (x : Word) : Statement (.lsrAbs x) := fun _ => ⟨_, rfl, rfl⟩

theorem lsrAbsx (x : Word) : Statement (.lsrAbsx x) := fun _ => ⟨_, rfl, rfl⟩

theorem rolAcc : Statement .rolAcc := fun _ => ⟨_, rfl, rfl⟩

theorem rolZp (x : Byte) : Statement (.rolZp x) := fun _ => ⟨_, rfl, rfl⟩

theorem rolZpx (x : Byte) : Statement (.rolZpx x) := fun _ => ⟨_, rfl, rfl⟩

theorem rolAbs (x : Word) : Statement (.rolAbs x) := fun _ => ⟨_, rfl, rfl⟩

theorem rolAbsx (x : Word) : Statement (.rolAbsx x) := fun _ => ⟨_, rfl, rfl⟩

theorem rorAcc : Statement .rorAcc := fun _ => ⟨_, rfl, rfl⟩

theorem rorZp (x : Byte) : Statement (.rorZp x) := fun _ => ⟨_, rfl, rfl⟩

theorem rorZpx (x : Byte) : Statement (.rorZpx x) := fun _ => ⟨_, rfl, rfl⟩

theorem rorAbs (x : Word) : Statement (.rorAbs x) := fun _ => ⟨_, rfl, rfl⟩

theorem rorAbsx (x : Word) : Statement (.rorAbsx x) := fun _ => ⟨_, rfl, rfl⟩

theorem incZp (x : Byte) : Statement (.incZp x) := fun _ => ⟨_, rfl, rfl⟩

theorem incZpx (x : Byte) : Statement (.incZpx x) := fun _ => ⟨_, rfl, rfl⟩

theorem incAbs (x : Word) : Statement (.incAbs x) := fun _ => ⟨_, rfl, rfl⟩

theorem incAbsx (x : Word) : Statement (.incAbsx x) := fun _ => ⟨_, rfl, rfl⟩

theorem decZp (x : Byte) : Statement (.decZp x) := fun _ => ⟨_, rfl, rfl⟩

theorem decZpx (x : Byte) : Statement (.decZpx x) := fun _ => ⟨_, rfl, rfl⟩

theorem decAbs (x : Word) : Statement (.decAbs x) := fun _ => ⟨_, rfl, rfl⟩

theorem decAbsx (x : Word) : Statement (.decAbsx x) := fun _ => ⟨_, rfl, rfl⟩

theorem inx : Statement .inx := fun _ => ⟨_, rfl, rfl⟩

theorem iny : Statement .iny := fun _ => ⟨_, rfl, rfl⟩

theorem dex : Statement .dex := fun _ => ⟨_, rfl, rfl⟩

theorem dey : Statement .dey := fun _ => ⟨_, rfl, rfl⟩

theorem bpl (x : Byte) : Statement (.bpl x) := fun _ => ⟨_, rfl, rfl⟩

theorem bmi (x : Byte) : Statement (.bmi x) := fun _ => ⟨_, rfl, rfl⟩

theorem bvc (x : Byte) : Statement (.bvc x) := fun _ => ⟨_, rfl, rfl⟩

theorem bvs (x : Byte) : Statement (.bvs x) := fun _ => ⟨_, rfl, rfl⟩

theorem bcc (x : Byte) : Statement (.bcc x) := fun _ => ⟨_, rfl, rfl⟩

theorem bcs (x : Byte) : Statement (.bcs x) := fun _ => ⟨_, rfl, rfl⟩

theorem bne (x : Byte) : Statement (.bne x) := fun _ => ⟨_, rfl, rfl⟩

theorem beq (x : Byte) : Statement (.beq x) := fun _ => ⟨_, rfl, rfl⟩

theorem jmpAbs (x : Word) : Statement (.jmpAbs x) := fun _ => ⟨_, rfl, rfl⟩

theorem jmpInd (x : Word) : Statement (.jmpInd x) := fun _ => ⟨_, rfl, rfl⟩

theorem jsr (x : Word) : Statement (.jsr x) := fun _ => ⟨_, rfl, rfl⟩

theorem rts : Statement .rts := fun _ => ⟨_, rfl, rfl⟩

theorem brk (x : Byte) : Statement (.brk x) := fun _ => ⟨_, rfl, rfl⟩

theorem rti : Statement .rti := fun _ => ⟨_, rfl, rfl⟩

theorem pha : Statement .pha := fun _ => ⟨_, rfl, rfl⟩

theorem php : Statement .php := fun _ => ⟨_, rfl, rfl⟩

theorem pla : Statement .pla := fun _ => ⟨_, rfl, rfl⟩

theorem plp : Statement .plp := fun _ => ⟨_, rfl, rfl⟩

theorem clc : Statement .clc := fun _ => ⟨_, rfl, rfl⟩

theorem sec : Statement .sec := fun _ => ⟨_, rfl, rfl⟩

theorem cli : Statement .cli := fun _ => ⟨_, rfl, rfl⟩

theorem sei : Statement .sei := fun _ => ⟨_, rfl, rfl⟩

theorem cld : Statement .cld := fun _ => ⟨_, rfl, rfl⟩

theorem sed : Statement .sed := fun _ => ⟨_, rfl, rfl⟩

theorem clv : Statement .clv := fun _ => ⟨_, rfl, rfl⟩

theorem nop : Statement .nop := fun _ => ⟨_, rfl, rfl⟩

theorem undocumented_length : ∀ op ∈ undocumentedBytes, instrLength op = 1 := by decide +kernel

theorem unimpl (x : Byte) : Statement (.unimpl x) := by
  intro h
  have hx : x ∈ undocumentedBytes := by simpa [Instr.wf] using h
  exact ⟨x, rfl, (undocumented_length x hx).symm⟩

end Sys2Proof.Laws.Encoding
end

