-- ==== Sys2Proof/Laws/Riot.lean ====
section
/-! SUPPORT. What a RIOT access and a RIOT tick can change (60_exceptions.md R321, R324, R325, R328). -/

namespace Sys2Proof.Machine

@[simp] theorem Riot.tick_orA (r : Riot) : r.tick.orA = r.orA := by unfold Riot.tick; split <;> rfl
@[simp] theorem Riot.tick_ddrA (r : Riot) : r.tick.ddrA = r.ddrA := by unfold Riot.tick; split <;> rfl
@[simp] theorem Riot.tick_orB (r : Riot) : r.tick.orB = r.orB := by unfold Riot.tick; split <;> rfl
@[simp] theorem Riot.tick_ddrB (r : Riot) : r.tick.ddrB = r.ddrB := by unfold Riot.tick; split <;> rfl
@[simp] theorem Riot.tick_div (r : Riot) : r.tick.div = r.div := by unfold Riot.tick; split <;> rfl

/-- While the prescaler has more than one tick to go, a tick only counts it down (R325). -/
theorem Riot.tick_of_lt {r : Riot} (h : 1 < r.pre) : r.tick = { r with pre := r.pre - 1 } := by
  simp [Riot.tick, Nat.not_le.2 h]

/-- A read that is not of INTIM changes nothing (R321). -/
theorem Riot.afterRead_of_ne {reg : RiotReadReg} (h : reg ≠ .intim) (p : Params) (r : Riot) : r.afterRead p reg = r := by
  cases reg <;> simp_all [Riot.afterRead]

@[simp] theorem Riot.afterRead_count (p : Params) (r : Riot) (reg : RiotReadReg) :
    (r.afterRead p reg).count = r.count := by cases reg <;> rfl
@[simp] theorem Riot.afterRead_pre (p : Params) (r : Riot) (reg : RiotReadReg) : (r.afterRead p reg).pre = r.pre := by
  cases reg <;> rfl
@[simp] theorem Riot.afterRead_div (p : Params) (r : Riot) (reg : RiotReadReg) : (r.afterRead p reg).div = r.div := by
  cases reg <;> rfl
@[simp] theorem Riot.afterRead_orA (p : Params) (r : Riot) (reg : RiotReadReg) : (r.afterRead p reg).orA = r.orA := by
  cases reg <;> rfl
@[simp] theorem Riot.afterRead_ddrA (p : Params) (r : Riot) (reg : RiotReadReg) : (r.afterRead p reg).ddrA = r.ddrA := by
  cases reg <;> rfl
@[simp] theorem Riot.afterRead_orB (p : Params) (r : Riot) (reg : RiotReadReg) : (r.afterRead p reg).orB = r.orB := by
  cases reg <;> rfl
@[simp] theorem Riot.afterRead_ddrB (p : Params) (r : Riot) (reg : RiotReadReg) : (r.afterRead p reg).ddrB = r.ddrB := by
  cases reg <;> rfl

theorem Divisor.toNat_pos (d : Divisor) : 1 ≤ d.toNat := by cases d <;> decide

/-- A RIOT tick keeps the prescaler in range. -/
theorem Riot.tick_timerInRange {r : Riot} (h : TimerInRange r) : TimerInRange r.tick := by
  obtain ⟨h1, h2⟩ := h
  have hd := r.div.toNat_pos
  by_cases h3 : r.pre ≤ 1
  · have : (r.tick).pre = if (r.fast || r.count == 0) then 1 else r.div.toNat := by simp [Riot.tick, h3]
    refine ⟨?_, ?_⟩ <;> rw [this] <;> split <;> simp_all
  · rw [Riot.tick_of_lt (by omega)]
    exact ⟨by show 1 ≤ r.pre - 1; omega, by show r.pre - 1 ≤ r.div.toNat; omega⟩

/-- A RIOT write keeps the prescaler in range. -/
theorem Riot.write_timerInRange {r : Riot} (h : TimerInRange r) (reg : RiotWriteReg) (v : Byte) :
    TimerInRange (r.write reg v) := by
  cases reg with
  | timer d => exact ⟨Nat.le_refl 1, d.toNat_pos⟩
  | _ => exact h

end Sys2Proof.Machine
end

