-- ==== Sys2Proof/Tests/Slice0.lean ====
section
/-! SUPPORT. The model's own tests: which terms are instructions, the opcode map row by row, one step of each
instruction on a small state, the devices, and for every obligation with hypotheses a state that meets them.
Expected values are those of spec/95_test_vectors.md, or worked by hand from the rule named. -/

namespace Sys2Proof.Tests

open Sys2Proof.Machine

set_option Elab.async false

/-! What is an instruction (30_encoding.md R102, R110). -/

theorem test_wf_unimpl_documented_byte : (Instr.unimpl 0xA9).wf = false ∧ (Instr.unimpl 0x00).wf = false := by
  decide +kernel

theorem test_wf_unimpl_undocumented_byte : (Instr.unimpl 0x02).wf = true ∧ (Instr.unimpl 0xFF).wf = true := by
  decide +kernel

theorem test_wf_operands : (Instr.ldaImm 0xFF).wf = true ∧ (Instr.jsr 0xFFFF).wf = true ∧ Instr.nop.wf = true := by
  decide +kernel

/-! The opcode map, row by row of 30_encoding.md R104, and the bytes R110 lists in it. -/

theorem test_decode_short : decode [] = .empty ∧ decode [0xA9] = .truncated 0xA9 ∧ decode [0x4C, 0x00] = .truncated 0x4C := by
  decide +kernel

theorem test_decodeTableWord :
    decodeTableWord 8 0xA9 = some (.ldaImm 0) ∧ decodeTableWord 16 0x42A9 = some (.ldaImm 0x42)
      ∧ decodeTableWord 24 0x12346D = some (.adcAbs 0x1234) ∧ decodeTableWord 8 0x02 = some (.unimpl 0x02) := by
  decide +kernel

theorem test_decode_row_0 :
    decode [0x00, 0x5A] = .ok (.brk 0x5A) []
      ∧ decode [0x01, 0x5A] = .ok (.oraIndx 0x5A) []
      ∧ decode [0x05, 0x5A] = .ok (.oraZp 0x5A) []
      ∧ decode [0x06, 0x5A] = .ok (.aslZp 0x5A) []
      ∧ decode [0x08] = .ok .php []
      ∧ decode [0x09, 0x5A] = .ok (.oraImm 0x5A) []
      ∧ decode [0x0A] = .ok .aslAcc []
      ∧ decode [0x0D, 0x34, 0x12] = .ok (.oraAbs 0x1234) []
      ∧ decode [0x0E, 0x34, 0x12] = .ok (.aslAbs 0x1234) []
      ∧ ([0x02, 0x03, 0x04, 0x07, 0x0B, 0x0C, 0x0F] : List Byte).all (fun op => decode [op] = .ok (.unimpl op) []) = true := by
  decide +kernel

theorem test_decode_row_1 :
    decode [0x10, 0x5A] = .ok (.bpl 0x5A) []
      ∧ decode [0x11, 0x5A] = .ok (.oraIndy 0x5A) []
      ∧ decode [0x15, 0x5A] = .ok (.oraZpx 0x5A) []
      ∧ decode [0x16, 0x5A] = .ok (.aslZpx 0x5A) []
      ∧ decode [0x18] = .ok .clc []
      ∧ decode [0x19, 0x34, 0x12] = .ok (.oraAbsy 0x1234) []
      ∧ decode [0x1D, 0x34, 0x12] = .ok (.oraAbsx 0x1234) []
      ∧ decode [0x1E, 0x34, 0x12] = .ok (.aslAbsx 0x1234) []
      ∧ ([0x12, 0x13, 0x14, 0x17, 0x1A, 0x1B, 0x1C, 0x1F] : List Byte).all (fun op => decode [op] = .ok (.unimpl op) []) = true := by
  decide +kernel

theorem test_decode_row_2 :
    decode [0x20, 0x34, 0x12] = .ok (.jsr 0x1234) []
      ∧ decode [0x21, 0x5A] = .ok (.andIndx 0x5A) []
      ∧ decode [0x24, 0x5A] = .ok (.bitZp 0x5A) []
      ∧ decode [0x25, 0x5A] = .ok (.andZp 0x5A) []
      ∧ decode [0x26, 0x5A] = .ok (.rolZp 0x5A) []
      ∧ decode [0x28] = .ok .plp []
      ∧ decode [0x29, 0x5A] = .ok (.andImm 0x5A) []
      ∧ decode [0x2A] = .ok .rolAcc []
      ∧ decode [0x2C, 0x34, 0x12] = .ok (.bitAbs 0x1234) []
      ∧ decode [0x2D, 0x34, 0x12] = .ok (.andAbs 0x1234) []
      ∧ decode [0x2E, 0x34, 0x12] = .ok (.rolAbs 0x1234) []
      ∧ ([0x22, 0x23, 0x27, 0x2B, 0x2F] : List Byte).all (fun op => decode [op] = .ok (.unimpl op) []) = true := by
  decide +kernel

theorem test_decode_row_3 :
    decode [0x30, 0x5A] = .ok (.bmi 0x5A) []
      ∧ decode [0x31, 0x5A] = .ok (.andIndy 0x5A) []
      ∧ decode [0x35, 0x5A] = .ok (.andZpx 0x5A) []
      ∧ decode [0x36, 0x5A] = .ok (.rolZpx 0x5A) []
      ∧ decode [0x38] = .ok .sec []
      ∧ decode [0x39, 0x34, 0x12] = .ok (.andAbsy 0x1234) []
      ∧ decode [0x3D, 0x34, 0x12] = .ok (.andAbsx 0x1234) []
      ∧ decode [0x3E, 0x34, 0x12] = .ok (.rolAbsx 0x1234) []
      ∧ ([0x32, 0x33, 0x34, 0x37, 0x3A, 0x3B, 0x3C, 0x3F] : List Byte).all (fun op => decode [op] = .ok (.unimpl op) []) = true := by
  decide +kernel

theorem test_decode_row_4 :
    decode [0x40] = .ok .rti []
      ∧ decode [0x41, 0x5A] = .ok (.eorIndx 0x5A) []
      ∧ decode [0x45, 0x5A] = .ok (.eorZp 0x5A) []
      ∧ decode [0x46, 0x5A] = .ok (.lsrZp 0x5A) []
      ∧ decode [0x48] = .ok .pha []
      ∧ decode [0x49, 0x5A] = .ok (.eorImm 0x5A) []
      ∧ decode [0x4A] = .ok .lsrAcc []
      ∧ decode [0x4C, 0x34, 0x12] = .ok (.jmpAbs 0x1234) []
      ∧ decode [0x4D, 0x34, 0x12] = .ok (.eorAbs 0x1234) []
      ∧ decode [0x4E, 0x34, 0x12] = .ok (.lsrAbs 0x1234) []
      ∧ ([0x42, 0x43, 0x44, 0x47, 0x4B, 0x4F] : List Byte).all (fun op => decode [op] = .ok (.unimpl op) []) = true := by
  decide +kernel

theorem test_decode_row_5 :
    decode [0x50, 0x5A] = .ok (.bvc 0x5A) []
      ∧ decode [0x51, 0x5A] = .ok (.eorIndy 0x5A) []
      ∧ decode [0x55, 0x5A] = .ok (.eorZpx 0x5A) []
      ∧ decode [0x56, 0x5A] = .ok (.lsrZpx 0x5A) []
      ∧ decode [0x58] = .ok .cli []
      ∧ decode [0x59, 0x34, 0x12] = .ok (.eorAbsy 0x1234) []
      ∧ decode [0x5D, 0x34, 0x12] = .ok (.eorAbsx 0x1234) []
      ∧ decode [0x5E, 0x34, 0x12] = .ok (.lsrAbsx 0x1234) []
      ∧ ([0x52, 0x53, 0x54, 0x57, 0x5A, 0x5B, 0x5C, 0x5F] : List Byte).all (fun op => decode [op] = .ok (.unimpl op) []) = true := by
  decide +kernel

theorem test_decode_row_6 :
    decode [0x60] = .ok .rts []
      ∧ decode [0x61, 0x5A] = .ok (.adcIndx 0x5A) []
      ∧ decode [0x65, 0x5A] = .ok (.adcZp 0x5A) []
      ∧ decode [0x66, 0x5A] = .ok (.rorZp 0x5A) []
      ∧ decode [0x68] = .ok .pla []
      ∧ decode [0x69, 0x5A] = .ok (.adcImm 0x5A) []
      ∧ decode [0x6A] = .ok .rorAcc []
      ∧ decode [0x6C, 0x34, 0x12] = .ok (.jmpInd 0x1234) []
      ∧ decode [0x6D, 0x34, 0x12] = .ok (.adcAbs 0x1234) []
      ∧ decode [0x6E, 0x34, 0x12] = .ok (.rorAbs 0x1234) []
      ∧ ([0x62, 0x63, 0x64, 0x67, 0x6B, 0x6F] : List Byte).all (fun op => decode [op] = .ok (.unimpl op) []) = true := by
  decide +kernel

theorem test_decode_row_7 :
    decode [0x70, 0x5A] = .ok (.bvs 0x5A) []
      ∧ decode [0x71, 0x5A] = .ok (.adcIndy 0x5A) []
      ∧ decode [0x75, 0x5A] = .ok (.adcZpx 0x5A) []
      ∧ decode [0x76, 0x5A] = .ok (.rorZpx 0x5A) []
      ∧ decode [0x78] = .ok .sei []
      ∧ decode [0x79, 0x34, 0x12] = .ok (.adcAbsy 0x1234) []
      ∧ decode [0x7D, 0x34, 0x12] = .ok (.adcAbsx 0x1234) []
      ∧ decode [0x7E, 0x34, 0x12] = .ok (.rorAbsx 0x1234) []
      ∧ ([0x72, 0x73, 0x74, 0x77, 0x7A, 0x7B, 0x7C, 0x7F] : List Byte).all (fun op => decode [op] = .ok (.unimpl op) []) = true := by
  decide +kernel

theorem test_decode_row_8 :
    decode [0x81, 0x5A] = .ok (.staIndx 0x5A) []
      ∧ decode [0x84, 0x5A] = .ok (.styZp 0x5A) []
      ∧ decode [0x85, 0x5A] = .ok (.staZp 0x5A) []
      ∧ decode [0x86, 0x5A] = .ok (.stxZp 0x5A) []
      ∧ decode [0x88] = .ok .dey []
      ∧ decode [0x8A] = .ok .txa []
      ∧ decode [0x8C, 0x34, 0x12] = .ok (.styAbs 0x1234) []
      ∧ decode [0x8D, 0x34, 0x12] = .ok (.staAbs 0x1234) []
      ∧ decode [0x8E, 0x34, 0x12] = .ok (.stxAbs 0x1234) []
      ∧ ([0x80, 0x82, 0x83, 0x87, 0x89, 0x8B, 0x8F] : List Byte).all (fun op => decode [op] = .ok (.unimpl op) []) = true := by
  decide +kernel

theorem test_decode_row_9 :
    decode [0x90, 0x5A] = .ok (.bcc 0x5A) []
      ∧ decode [0x91, 0x5A] = .ok (.staIndy 0x5A) []
      ∧ decode [0x94, 0x5A] = .ok (.styZpx 0x5A) []
      ∧ decode [0x95, 0x5A] = .ok (.staZpx 0x5A) []
      ∧ decode [0x96, 0x5A] = .ok (.stxZpy 0x5A) []
      ∧ decode [0x98] = .ok .tya []
      ∧ decode [0x99, 0x34, 0x12] = .ok (.staAbsy 0x1234) []
      ∧ decode [0x9A] = .ok .txs []
      ∧ decode [0x9D, 0x34, 0x12] = .ok (.staAbsx 0x1234) []
      ∧ ([0x92, 0x93, 0x97, 0x9B, 0x9C, 0x9E, 0x9F] : List Byte).all (fun op => decode [op] = .ok (.unimpl op) []) = true := by
  decide +kernel

theorem test_decode_row_A :
    decode [0xA0, 0x5A] = .ok (.ldyImm 0x5A) []
      ∧ decode [0xA1, 0x5A] = .ok (.ldaIndx 0x5A) []
      ∧ decode [0xA2, 0x5A] = .ok (.ldxImm 0x5A) []
      ∧ decode [0xA4, 0x5A] = .ok (.ldyZp 0x5A) []
      ∧ decode [0xA5, 0x5A] = .ok (.ldaZp 0x5A) []
      ∧ decode [0xA6, 0x5A] = .ok (.ldxZp 0x5A) []
      ∧ decode [0xA8] = .ok .tay []
      ∧ decode [0xA9, 0x5A] = .ok (.ldaImm 0x5A) []
      ∧ decode [0xAA] = .ok .tax []
      ∧ decode [0xAC, 0x34, 0x12] = .ok (.ldyAbs 0x1234) []
      ∧ decode [0xAD, 0x34, 0x12] = .ok (.ldaAbs 0x1234) []
      ∧ decode [0xAE, 0x34, 0x12] = .ok (.ldxAbs 0x1234) []
      ∧ ([0xA3, 0xA7, 0xAB, 0xAF] : List Byte).all (fun op => decode [op] = .ok (.unimpl op) []) = true := by
  decide +kernel

theorem test_decode_row_B :
    decode [0xB0, 0x5A] = .ok (.bcs 0x5A) []
      ∧ decode [0xB1, 0x5A] = .ok (.ldaIndy 0x5A) []
      ∧ decode [0xB4, 0x5A] = .ok (.ldyZpx 0x5A) []
      ∧ decode [0xB5, 0x5A] = .ok (.ldaZpx 0x5A) []
      ∧ decode [0xB6, 0x5A] = .ok (.ldxZpy 0x5A) []
      ∧ decode [0xB8] = .ok .clv []
      ∧ decode [0xB9, 0x34, 0x12] = .ok (.ldaAbsy 0x1234) []
      ∧ decode [0xBA] = .ok .tsx []
      ∧ decode [0xBC, 0x34, 0x12] = .ok (.ldyAbsx 0x1234) []
      ∧ decode [0xBD, 0x34, 0x12] = .ok (.ldaAbsx 0x1234) []
      ∧ decode [0xBE, 0x34, 0x12] = .ok (.ldxAbsy 0x1234) []
      ∧ ([0xB2, 0xB3, 0xB7, 0xBB, 0xBF] : List Byte).all (fun op => decode [op] = .ok (.unimpl op) []) = true := by
  decide +kernel

theorem test_decode_row_C :
    decode [0xC0, 0x5A] = .ok (.cpyImm 0x5A) []
      ∧ decode [0xC1, 0x5A] = .ok (.cmpIndx 0x5A) []
      ∧ decode [0xC4, 0x5A] = .ok (.cpyZp 0x5A) []
      ∧ decode [0xC5, 0x5A] = .ok (.cmpZp 0x5A) []
      ∧ decode [0xC6, 0x5A] = .ok (.decZp 0x5A) []
      ∧ decode [0xC8] = .ok .iny []
      ∧ decode [0xC9, 0x5A] = .ok (.cmpImm 0x5A) []
      ∧ decode [0xCA] = .ok .dex []
      ∧ decode [0xCC, 0x34, 0x12] = .ok (.cpyAbs 0x1234) []
      ∧ decode [0xCD, 0x34, 0x12] = .ok (.cmpAbs 0x1234) []
      ∧ decode [0xCE, 0x34, 0x12] = .ok (.decAbs 0x1234) []
      ∧ ([0xC2, 0xC3, 0xC7, 0xCB, 0xCF] : List Byte).all (fun op => decode [op] = .ok (.unimpl op) []) = true := by
  decide +kernel

theorem test_decode_row_D :
    decode [0xD0, 0x5A] = .ok (.bne 0x5A) []
      ∧ decode [0xD1, 0x5A] = .ok (.cmpIndy 0x5A) []
      ∧ decode [0xD5, 0x5A] = .ok (.cmpZpx 0x5A) []
      ∧ decode [0xD6, 0x5A] = .ok (.decZpx 0x5A) []
      ∧ decode [0xD8] = .ok .cld []
      ∧ decode [0xD9, 0x34, 0x12] = .ok (.cmpAbsy 0x1234) []
      ∧ decode [0xDD, 0x34, 0x12] = .ok (.cmpAbsx 0x1234) []
      ∧ decode [0xDE, 0x34, 0x12] = .ok (.decAbsx 0x1234) []
      ∧ ([0xD2, 0xD3, 0xD4, 0xD7, 0xDA, 0xDB, 0xDC, 0xDF] : List Byte).all (fun op => decode [op] = .ok (.unimpl op) []) = true := by
  decide +kernel

theorem test_decode_row_E :
    decode [0xE0, 0x5A] = .ok (.cpxImm 0x5A) []
      ∧ decode [0xE1, 0x5A] = .ok (.sbcIndx 0x5A) []
      ∧ decode [0xE4, 0x5A] = .ok (.cpxZp 0x5A) []
      ∧ decode [0xE5, 0x5A] = .ok (.sbcZp 0x5A) []
      ∧ decode [0xE6, 0x5A] = .ok (.incZp 0x5A) []
      ∧ decode [0xE8] = .ok .inx []
      ∧ decode [0xE9, 0x5A] = .ok (.sbcImm 0x5A) []
      ∧ decode [0xEA] = .ok .nop []
      ∧ decode [0xEC, 0x34, 0x12] = .ok (.cpxAbs 0x1234) []
      ∧ decode [0xED, 0x34, 0x12] = .ok (.sbcAbs 0x1234) []
      ∧ decode [0xEE, 0x34, 0x12] = .ok (.incAbs 0x1234) []
      ∧ ([0xE2, 0xE3, 0xE7, 0xEB, 0xEF] : List Byte).all (fun op => decode [op] = .ok (.unimpl op) []) = true := by
  decide +kernel

theorem test_decode_row_F :
    decode [0xF0, 0x5A] = .ok (.beq 0x5A) []
      ∧ decode [0xF1, 0x5A] = .ok (.sbcIndy 0x5A) []
      ∧ decode [0xF5, 0x5A] = .ok (.sbcZpx 0x5A) []
      ∧ decode [0xF6, 0x5A] = .ok (.incZpx 0x5A) []
      ∧ decode [0xF8] = .ok .sed []
      ∧ decode [0xF9, 0x34, 0x12] = .ok (.sbcAbsy 0x1234) []
      ∧ decode [0xFD, 0x34, 0x12] = .ok (.sbcAbsx 0x1234) []
      ∧ decode [0xFE, 0x34, 0x12] = .ok (.incAbsx 0x1234) []
      ∧ ([0xF2, 0xF3, 0xF4, 0xF7, 0xFA, 0xFB, 0xFC, 0xFF] : List Byte).all (fun op => decode [op] = .ok (.unimpl op) []) = true := by
  decide +kernel

/-! The small states the tests start from, and what they look at. -/

/-- Flags from six bits, N V D I Z C. -/
def fl (b : BitVec 6) : Flags where
  n := b.getLsbD 5
  v := b.getLsbD 4
  d := b.getLsbD 3
  i := b.getLsbD 2
  z := b.getLsbD 1
  c := b.getLsbD 0

/-- The reset machine under a DECIMAL_MODE, with these registers and RAM; the image is blank. -/
def st (a x y s : Byte) (p : BitVec 6) (pc : Word) (ram : Memory) (mode : DecimalMode := .nmosBcd) : State :=
  { State.reset with
    cpu := { a := a, x := x, y := y, s := s, pc := pc, p := fl p }
    ram := ram
    params := { defaultParams with decimalMode := mode } }

/-- The image holds these bytes from an offset on. -/
def withRom (o : Nat) (bs : List Byte) (s : State) : State := { s with cart := cartWith s.cart.rom o bs }

/-- The reset machine with an instruction's bytes at $F000 and PC there. -/
def code (bs : List Byte) : State := withRom 0 bs (st 0 0 0 0xFF 0b000100 0xF000 [])

/-- What a test reads of a result: a value of the next state, if there is one. -/
def look {α : Type} (r : Result) (f : State → α) : Option α :=
  match r with
  | .next t => some (f t)
  | _ => none

/-- A, N V Z C after an immediate ADC or SBC. -/
def arith (i : Byte → Instr) (mode : DecimalMode) (d : Bool) (a m : Byte) (c : Bool) : Option (Byte × List Bool) :=
  look (exec (i m) { st a 0 0 0xFF 0 0xF002 [] mode with
    cpu := { a := a, x := 0, y := 0, s := 0xFF, pc := 0xF002, p := { fl 0 with d := d, c := c } } })
    fun t => (t.cpu.a, [t.cpu.p.n, t.cpu.p.v, t.cpu.p.z, t.cpu.p.c])

/-- A result that goes on. -/
def isNext (r : Result) : Bool :=
  match r with
  | .next _ => true
  | _ => false

theorem exists_of_isNext {r : Result} (h : isNext r = true) : ∃ t, r = .next t := by
  cases r <;> simp_all [isNext]

/-! Loads, stores and transfers (95_test_vectors.md section 2.2). -/

theorem test_lda_flags :
    look (exec (.ldaImm 0x00) (st 1 0 0 0xFF 0 0xF002 [])) (·.cpu) = some (st 0 0 0 0xFF 0b000010 0xF002 []).cpu
      ∧ look (exec (.ldaImm 0x80) (st 1 0 0 0xFF 0 0xF002 [])) (·.cpu) = some (st 0x80 0 0 0xFF 0b100000 0xF002 []).cpu := by
  decide +kernel

/-- LDA $02F0,X with X = $94: the dummy read of $0284 clears the timer flag, the operand is INTIM at $0384. -/
theorem test_lda_absx_reads_twice :
    look (exec (.ldaAbsx 0x02F0) { st 0 0x94 0 0xFF 0 0xF003 [] with
        riot := { resetRiot with count := 0x42, div := .by8, pre := 8, flag := true } })
      (fun t => (t.cpu.a, t.riot.flag, t.cycles)) = some (0x42, false, 2) := by
  decide +kernel

/-- LDX $FF,Y wraps in page 0 (R137); by hand with Y = $81: the address is $80. -/
theorem test_ldx_zpy_wraps :
    look (exec (.ldxZpy 0xFF) (st 0 0 0x81 0xFF 0 0xF002 [(0, 0x7F)])) (fun t => (t.cpu.x, t.cycles)) = some (0x7F, 2) := by
  decide +kernel

/-- LDA ($80),Y with base $12F0, Y = $20: EA $1310, image offset $310; one cycle more than without a crossing. -/
theorem test_lda_indy_crosses :
    look (exec (.ldaIndy 0x80) (withRom 0x310 [0x77] (st 0 0 0x20 0xFF 0 0xF002 [(0, 0xF0), (1, 0x12)])))
      (fun t => (t.cpu.a, t.cycles)) = some (0x77, 4) := by
  decide +kernel

/-- LDY ($80 + X): X is added in page 0 (R137); by hand. -/
theorem test_ldy_zpx :
    look (exec (.ldyZpx 0x80) (st 0 5 0 0xFF 0 0xF002 [(5, 0x99)])) (fun t => (t.cpu.y, t.cpu.p)) = some (0x99, fl 0b100000) := by
  decide +kernel

/-- STA $80,X with X = $7F writes RAM[$7F]. -/
theorem test_sta_zpx :
    look (exec (.staZpx 0x80) (st 0x42 0x7F 0 0xFF 0 0xF002 [])) (fun t => (t.ram, t.cpu.p)) = some ([(0x7F, 0x42)], fl 0) := by
  decide +kernel

/-- STA ($80,X), by hand from R140: pointer at $82 with X = 2, always six cycles, two of them fetches. -/
theorem test_sta_indx :
    look (exec (.staIndx 0x80) (st 0x42 2 0 0xFF 0 0xF002 [(2, 0x90), (3, 0x00)])) (fun t => (t.ram.read 0x10, t.cycles))
      = some (0x42, 4) := by
  decide +kernel

theorem test_stx_sty :
    look (exec (.stxZpy 0x80) (st 0 0x11 3 0xFF 0 0xF002 [])) (·.ram) = some [(3, 0x11)]
      ∧ look (exec (.styAbs 0x0480) (st 0 0 0x22 0xFF 0 0xF003 [])) (·.ram) = some [(0, 0x22)] := by
  decide +kernel

theorem test_transfers :
    look (exec .tax (st 0 9 0 0xFF 0 0xF001 [])) (·.cpu) = some (st 0 0 0 0xFF 0b000010 0xF001 []).cpu
      ∧ look (exec .txs (st 0 0x80 0 0xFF 0b000010 0xF001 [])) (·.cpu) = some (st 0 0x80 0 0x80 0b000010 0xF001 []).cpu
      ∧ look (exec .tsx (st 0 0 0 0xFF 0 0xF001 [])) (·.cpu) = some (st 0 0xFF 0 0xFF 0b100000 0xF001 []).cpu
      ∧ look (exec .tay (st 0x80 0 0 0xFF 0 0xF001 [])) (·.cpu) = some (st 0x80 0 0x80 0xFF 0b100000 0xF001 []).cpu
      ∧ look (exec .txa (st 1 0x80 0 0xFF 0 0xF001 [])) (·.cpu) = some (st 0x80 0x80 0 0xFF 0b100000 0xF001 []).cpu
      ∧ look (exec .tya (st 1 0 0 0xFF 0 0xF001 [])) (·.cpu) = some (st 0 0 0 0xFF 0b000010 0xF001 []).cpu := by
  decide +kernel

/-! Add and subtract (95_test_vectors.md section 2.3). -/

theorem test_adc_binary :
    arith .adcImm .nmosBcd false 0xFF 0x01 false = some (0x00, [false, false, true, true])
      ∧ arith .adcImm .nmosBcd false 0x7F 0x01 false = some (0x80, [true, true, false, false])
      ∧ arith .adcImm .nmosBcd false 0x80 0x80 false = some (0x00, [false, true, true, true])
      ∧ arith .adcImm .nmosBcd false 0xFF 0xFF true = some (0xFF, [true, false, false, true])
      ∧ arith .adcImm .nmosBcd false 0x50 0x50 false = some (0xA0, [true, true, false, false])
      ∧ arith .adcImm .binaryOnly true 0x99 0x01 false = some (0x9A, [true, false, false, false]) := by
  decide +kernel

theorem test_adc_decimal :
    arith .adcImm .nmosBcd true 0x99 0x01 false = some (0x00, [true, false, false, true])
      ∧ arith .adcImm .nmosBcd true 0x58 0x46 true = some (0x05, [true, true, false, true])
      ∧ arith .adcImm .nmosBcd true 0x50 0x50 false = some (0x00, [true, true, false, true])
      ∧ arith .adcImm .nmosBcd true 0x09 0x01 false = some (0x10, [false, false, false, false])
      ∧ arith .adcImm .nmosBcd true 0x0F 0x01 false = some (0x16, [false, false, false, false])
      ∧ arith .adcImm .nmosBcd true 0x99 0x99 true = some (0x99, [false, true, false, true]) := by
  decide +kernel

theorem test_sbc_binary :
    arith .sbcImm .nmosBcd false 0x00 0x01 true = some (0xFF, [true, false, false, false])
      ∧ arith .sbcImm .nmosBcd false 0x80 0x01 true = some (0x7F, [false, true, false, true])
      ∧ arith .sbcImm .nmosBcd false 0x00 0x00 false = some (0xFF, [true, false, false, false])
      ∧ arith .sbcImm .nmosBcd false 0x50 0xB0 true = some (0xA0, [true, true, false, false])
      ∧ arith .sbcImm .nmosBcd false 0x40 0x40 true = some (0x00, [false, false, true, true]) := by
  decide +kernel

theorem test_sbc_decimal :
    arith .sbcImm .nmosBcd true 0x46 0x12 true = some (0x34, [false, false, false, true])
      ∧ arith .sbcImm .nmosBcd true 0x12 0x21 true = some (0x91, [true, false, false, false])
      ∧ arith .sbcImm .nmosBcd true 0x00 0x01 true = some (0x99, [true, false, false, false])
      ∧ arith .sbcImm .nmosBcd true 0x20 0x0A true = some (0x10, [false, false, false, true])
      ∧ arith .sbcImm .nmosBcd true 0x50 0x25 false = some (0x24, [false, false, false, true]) := by
  decide +kernel

/-! Logic, compare and bit test (95_test_vectors.md section 2.4). -/

theorem test_logic :
    look (exec (.andImm 0x0F) (st 0xF0 0 0 0xFF 0 0xF002 [])) (fun t => (t.cpu.a, t.cpu.p)) = some (0x00, fl 0b000010)
      ∧ look (exec (.andImm 0xF0) (st 0xFF 0 0 0xFF 0 0xF002 [])) (fun t => (t.cpu.a, t.cpu.p)) = some (0xF0, fl 0b100000)
      ∧ look (exec (.oraImm 0x80) (st 0x01 0 0 0xFF 0 0xF002 [])) (fun t => (t.cpu.a, t.cpu.p)) = some (0x81, fl 0b100000)
      ∧ look (exec (.eorImm 0xFF) (st 0xFF 0 0 0xFF 0 0xF002 [])) (fun t => (t.cpu.a, t.cpu.p)) = some (0x00, fl 0b000010)
      ∧ look (exec (.eorImm 0xFF) (st 0x0F 0 0 0xFF 0 0xF002 [])) (fun t => (t.cpu.a, t.cpu.p)) = some (0xF0, fl 0b100000) := by
  decide +kernel

theorem test_compare :
    look (exec (.cmpImm 0x10) (st 0x10 0 0 0xFF 0 0xF002 [])) (fun t => (t.cpu.a, t.cpu.p)) = some (0x10, fl 0b000011)
      ∧ look (exec (.cmpImm 0x10) (st 0x0F 0 0 0xFF 0 0xF002 [])) (fun t => (t.cpu.a, t.cpu.p)) = some (0x0F, fl 0b100000)
      ∧ look (exec (.cmpImm 0x10) (st 0x90 0 0 0xFF 0b001000 0xF002 [])) (fun t => (t.cpu.a, t.cpu.p)) = some (0x90, fl 0b101001)
      ∧ look (exec (.cpxImm 0x05) (st 0 4 0 0xFF 0 0xF002 [])) (·.cpu.p) = some (fl 0b100000)
      ∧ look (exec (.cpyImm 0x00) (st 0 0 0 0xFF 0 0xF002 [])) (·.cpu.p) = some (fl 0b000011) := by
  decide +kernel

theorem test_bit :
    look (exec (.bitZp 0x80) (st 0x01 0 0 0xFF 0 0xF002 [(0, 0xC0)])) (fun t => (t.cpu.a, t.cpu.p)) = some (0x01, fl 0b110010)
      ∧ look (exec (.bitZp 0x80) (st 0xFF 0 0 0xFF 0 0xF002 [(0, 0x3F)])) (fun t => (t.cpu.a, t.cpu.p)) = some (0xFF, fl 0) := by
  decide +kernel

/-! Shifts, increments and decrements (95_test_vectors.md section 2.5). -/

theorem test_asl :
    look (exec .aslAcc (st 0x81 0 0 0xFF 0 0xF001 [])) (fun t => (t.cpu.a, t.cpu.p)) = some (0x02, fl 0b000001)
      ∧ look (exec .aslAcc (st 0x80 0 0 0xFF 0 0xF001 [])) (fun t => (t.cpu.a, t.cpu.p)) = some (0x00, fl 0b000011)
      ∧ look (exec .aslAcc (st 0x40 0 0 0xFF 0 0xF001 [])) (fun t => (t.cpu.a, t.cpu.p)) = some (0x80, fl 0b100000) := by
  decide +kernel

theorem test_asl_memory :
    look (exec (.aslZp 0x80) (st 0 0 0 0xFF 0 0xF002 [(0, 0xC0)])) (fun t => (t.ram, t.cpu.p, t.cycles))
      = some ([(0, 0x80)], fl 0b100001, 3) := by
  decide +kernel

theorem test_lsr :
    look (exec .lsrAcc (st 0x01 0 0 0xFF 0 0xF001 [])) (fun t => (t.cpu.a, t.cpu.p)) = some (0x00, fl 0b000011)
      ∧ look (exec .lsrAcc (st 0x80 0 0 0xFF 0 0xF001 [])) (fun t => (t.cpu.a, t.cpu.p)) = some (0x40, fl 0) := by
  decide +kernel

theorem test_rotates :
    look (exec .rolAcc (st 0x80 0 0 0xFF 0b000001 0xF001 [])) (fun t => (t.cpu.a, t.cpu.p)) = some (0x01, fl 0b000001)
      ∧ look (exec .rolAcc (st 0x40 0 0 0xFF 0 0xF001 [])) (fun t => (t.cpu.a, t.cpu.p)) = some (0x80, fl 0b100000)
      ∧ look (exec .rorAcc (st 0x01 0 0 0xFF 0b000001 0xF001 [])) (fun t => (t.cpu.a, t.cpu.p)) = some (0x80, fl 0b100001)
      ∧ look (exec .rorAcc (st 0x00 0 0 0xFF 0 0xF001 [])) (fun t => (t.cpu.a, t.cpu.p)) = some (0x00, fl 0b000010) := by
  decide +kernel

theorem test_inc_dec :
    look (exec (.incZp 0x80) (st 0 0 0 0xFF 0b000001 0xF002 [(0, 0xFF)])) (fun t => (t.ram, t.cpu.p)) = some ([], fl 0b000011)
      ∧ look (exec (.decZp 0x80) (st 0 0 0 0xFF 0 0xF002 [])) (fun t => (t.ram, t.cpu.p)) = some ([(0, 0xFF)], fl 0b100000) := by
  decide +kernel

/-- INC WSYNC makes two writes, and the wait latch stays set. -/
theorem test_inc_wsync :
    look (exec (.incZp 0x02) { st 0 0 0 0xFF 0 0xF002 [] with tia := { resetTia with hcount := 6 } })
      (fun t => (t.tia.waiting, t.tia.hcount, t.cycles)) = some (true, 15, 3) := by
  decide +kernel

theorem test_index_steps :
    look (exec .inx (st 0 0xFF 0 0xFF 0 0xF001 [])) (fun t => (t.cpu.x, t.cpu.p)) = some (0x00, fl 0b000010)
      ∧ look (exec .inx (st 0 0x7F 0 0xFF 0 0xF001 [])) (fun t => (t.cpu.x, t.cpu.p)) = some (0x80, fl 0b100000)
      ∧ look (exec .dex (st 0 0x01 0 0xFF 0 0xF001 [])) (fun t => (t.cpu.x, t.cpu.p)) = some (0x00, fl 0b000010)
      ∧ look (exec .dey (st 0 0 0x00 0xFF 0 0xF001 [])) (fun t => (t.cpu.y, t.cpu.p)) = some (0xFF, fl 0b100000)
      ∧ look (exec .iny (st 0 0 0xFE 0xFF 0 0xF001 [])) (fun t => (t.cpu.y, t.cpu.p)) = some (0xFF, fl 0b100000) := by
  decide +kernel

/-- ASL $1234,X takes seven cycles, three of them fetches, with a crossing and without. -/
theorem test_rmw_absx_cycles :
    look (exec (.aslAbsx 0x1234) (st 0 0 0 0xFF 0 0xF003 [])) (·.cycles) = some 4
      ∧ look (exec (.aslAbsx 0x1234) (st 0 0xFF 0 0xFF 0 0xF003 [])) (·.cycles) = some 4 := by
  decide +kernel

/-! Branches (95_test_vectors.md section 2.6); PC is the next instruction's address, and two cycles went before. -/

theorem test_branches_taken :
    look (exec (.bpl 0xFB) (st 0 0 0 0xFF 0 0xF00E [])) (fun t => (t.cpu.pc, t.cycles)) = some (0xF009, 1)
      ∧ look (exec (.bcs 0x80) (st 0 0 0 0xFF 0b000001 0xF082 [])) (fun t => (t.cpu.pc, t.cycles)) = some (0xF002, 1)
      ∧ look (exec (.beq 0x7F) (st 0 0 0 0xFF 0b000010 0xF002 [])) (fun t => (t.cpu.pc, t.cycles)) = some (0xF081, 1)
      ∧ look (exec (.bvs 0x00) (st 0 0 0 0xFF 0b010000 0xF002 [])) (fun t => (t.cpu.pc, t.cycles)) = some (0xF002, 1)
      ∧ look (exec (.bcc 0xFE) (st 0 0 0 0xFF 0 0xF002 [])) (fun t => (t.cpu.pc, t.cycles)) = some (0xF000, 1)
      ∧ look (exec (.beq 0x00) (st 0 0 0 0xFF 0b000010 0xF100 [])) (fun t => (t.cpu.pc, t.cycles)) = some (0xF100, 1) := by
  decide +kernel

theorem test_branches_cross_or_fall_through :
    look (exec (.bvc 0x02) (st 0 0 0 0xFF 0 0xF0FE [])) (fun t => (t.cpu.pc, t.cycles)) = some (0xF100, 2)
      ∧ look (exec (.bne 0xFC) (st 0 0 0 0xFF 0 0xF102 [])) (fun t => (t.cpu.pc, t.cycles)) = some (0xF0FE, 2)
      ∧ look (exec (.bmi 0x10) (st 0 0 0 0xFF 0 0xF002 [])) (fun t => (t.cpu.pc, t.cycles)) = some (0xF002, 0) := by
  decide +kernel

/-! Jumps, calls and returns (95_test_vectors.md section 2.7). -/

theorem test_jmp :
    look (exec (.jmpAbs 0xF123) (st 0 0 0 0xFF 0 0xF003 [])) (·.cpu.pc) = some 0xF123
      ∧ look (exec (.jmpInd 0x12FF) (withRom 0x200 [0xF7] (withRom 0x2FF [0x34, 0x99] (st 0 0 0 0xFF 0 0xF003 []))))
        (fun t => (t.cpu.pc, t.cycles)) = some (0xF734, 2) := by
  decide +kernel

/-- JSR $F012 at $F009. -/
theorem test_jsr :
    look (exec (.jsr 0xF012) (st 0 0 0 0xFF 0 0xF00B [])) (fun t => (t.cpu.pc, t.cpu.s, t.ram, t.cycles))
      = some (0xF012, 0xFD, [(0x7E, 0x0B), (0x7F, 0xF0)], 4) := by
  decide +kernel

/-- R250: a JSR at $00FD, in RAM, whose pushes overwrite its own high byte jumps to {$00, $34}; by hand. -/
theorem test_jsr_reads_its_high_byte_last :
    look (runInstruction (st 0 0 0 0xFF 0 0x00FD [(0x7D, 0x20), (0x7E, 0x34), (0x7F, 0xF0)])) (fun t => (t.cpu.pc, t.cycles))
      = some (0x0034, 6) := by
  decide +kernel

theorem test_rts :
    look (exec .rts (st 0 0 0 0xFD 0 0xF015 [(0x7E, 0x0B), (0x7F, 0xF0)])) (fun t => (t.cpu.pc, t.cpu.s, t.cycles))
        = some (0xF00C, 0xFF, 5)
      ∧ look (exec .rts (st 0 0 0 0xFD 0 0xF015 [(0x7E, 0xFF), (0x7F, 0xFF)])) (·.cpu.pc) = some 0x0000 := by
  decide +kernel

/-! Stack, flags and system (95_test_vectors.md section 2.8). -/

/-- BRK at $F100 with the vector $F200. -/
theorem test_brk :
    look (exec (.brk 0) (withRom 0xFFE [0x00, 0xF2] (st 0 0 0 0xFF 0b000011 0xF102 [])))
      (fun t => (t.cpu, t.ram, t.cycles))
      = some ((st 0 0 0 0xFC 0b000111 0xF200 []).cpu, [(0x7D, 0x33), (0x7E, 0x02), (0x7F, 0xF1)], 5) := by
  decide +kernel

theorem test_rti :
    look (exec .rti (st 0 0 0 0xFC 0b111100 0xF201 [(0x7D, 0x33), (0x7E, 0x02), (0x7F, 0xF1)])) (fun t => (t.cpu, t.cycles))
      = some ((st 0 0 0 0xFF 0b000011 0xF102 []).cpu, 5) := by
  decide +kernel

theorem test_pha :
    look (exec .pha (st 0x42 0 0 0xFF 0 0xF001 [])) (fun t => (t.ram, t.cpu.s, t.cycles)) = some ([(0x7F, 0x42)], 0xFE, 2)
      ∧ look (exec .pha (st 0x42 0 0 0x00 0 0xF001 [])) (fun t => (t.tia.regs.vsync, t.cpu.s)) = some (0x02, 0xFF) := by
  decide +kernel

theorem test_php : look (exec .php (st 0 0 0 0xFF 0b100101 0xF001 [])) (·.ram) = some [(0x7F, 0xB5)] := by
  decide +kernel

theorem test_pla :
    look (exec .pla (st 0x42 0 0 0xFE 0 0xF001 [])) (fun t => (t.cpu, t.cycles))
      = some ((st 0 0 0 0xFF 0b000010 0xF001 []).cpu, 3) := by
  decide +kernel

theorem test_plp :
    look (exec .plp (st 0 0 0 0xFE 0 0xF001 [(0x7F, 0xFF)])) (·.cpu.p) = some (fl 0b111111)
      ∧ look (exec .plp (st 0 0 0 0xFE 0b111111 0xF001 [(0x7F, 0x30)])) (·.cpu.p) = some (fl 0) := by
  decide +kernel

theorem test_flag_instructions :
    look (exec .sec (st 0 0 0 0xFF 0 0xF001 [])) (·.cpu.p) = some (fl 0b000001)
      ∧ look (exec .clc (st 0 0 0 0xFF 0b111111 0xF001 [])) (·.cpu.p) = some (fl 0b111110)
      ∧ look (exec .sed (st 0 0 0 0xFF 0 0xF001 [])) (·.cpu.p) = some (fl 0b001000)
      ∧ look (exec .cld (st 0 0 0 0xFF 0b111111 0xF001 [])) (·.cpu.p) = some (fl 0b110111)
      ∧ look (exec .sei (st 0 0 0 0xFF 0 0xF001 [])) (·.cpu.p) = some (fl 0b000100)
      ∧ look (exec .cli (st 0 0 0 0xFF 0b111111 0xF001 [])) (·.cpu.p) = some (fl 0b111011)
      ∧ look (exec .clv (st 0 0 0 0xFF 0b111111 0xF001 [])) (·.cpu.p) = some (fl 0b101111) := by
  decide +kernel

theorem test_nop :
    look (exec .nop (st 1 2 3 0xFF 0b111111 0xF001 [])) (fun t => (t.cpu, t.cycles))
      = some ((st 1 2 3 0xFF 0b111111 0xF001 []).cpu, 1) := by
  decide +kernel

/-- Opcode $02 at $F000 as the first step: the record, PC, and three TIA ticks. -/
theorem test_undocumented_opcode :
    (match step (code [0x02]) with
      | .fault (.unimplementedOpcode info t) => decide (info = ⟨0x02, 0xF000, 1⟩ ∧ t.cpu.pc = 0xF001 ∧ t.tia.hcount = 3)
      | _ => false) = true := by
  decide +kernel

/-! Reset, load and fetch (95_test_vectors.md sections 1.10 and 2.1). -/

/-- An image that holds these bytes from an offset on. -/
def image (size o : Nat) (bs : List Byte) : Rom where
  size := size
  bytes := placeRom o bs []

theorem test_reset_vector :
    look (step { State.reset with host := [.load (image 4096 0xFFC [0x00, 0xF0]) .none] }) (·.cpu.pc) = some 0xF000
      ∧ look (step { State.reset with host := [.load (image 2048 0x7FC [0x00, 0xF8]) .none] }) (·.cpu.pc) = some 0xF800 := by
  decide +kernel

theorem test_image_of_3000_bytes :
    (match step { State.reset with host := [.load (image 3000 0 []) .none] } with
      | .fault (.invalidCartridge n m _) => decide (n = 3000 ∧ m = .none)
      | _ => false) = true := by
  decide +kernel

theorem test_withFetchWord :
    look (step (State.reset.withFetchWord 16 0x42A9)) (fun t => (t.cpu.a, t.cpu.pc)) = some (0x42, 0xF002) := by
  decide +kernel

/-- F8: an access of $FF9 selects bank 1, after the byte of bank 0 is read (R71). -/
theorem test_hotspot :
    let s : State := { st 0 0 0 0xFF 0 0xF000 [] with
      cart := { rom := { size := 8192, bytes := [(0x0FF9, 0x11), (0x1FF9, 0x22)] }, mapper := .f8, bank := 0 } }
    (busRead 0xFFF9 s).1 = 0x11 ∧ (busRead 0xFFF9 s).2.cart.bank = 1 ∧ (busWrite 0xFFF8 0 (busRead 0xFFF9 s).2).cart.bank = 0
      ∧ (busRead 0xFFFA s).2.cart.bank = 0 := by
  decide +kernel

theorem test_bus_decode :
    isCart 0xF000 = true ∧ isCart 0x3FFC = true ∧ isRam 0x0080 = true ∧ isRam 0x01FF = true ∧ isRam 0x0480 = true
      ∧ isTia 0x0000 = true ∧ isTia 0x0100 = true ∧ isTia 0x0040 = true ∧ isRiot 0x0284 = true ∧ isRiot 0x0384 = true
      ∧ isRiot 0x0680 = true := by
  decide +kernel

/-! The RIOT (95_test_vectors.md section 2.9). -/

/-- The count and the flag that a read `j` cycles after a timer write sees. -/
def timerAt (d : Divisor) (n : Byte) (j : Nat) : Byte × Bool :=
  let r := Nat.iterate Riot.tick j (resetRiot.write (.timer d) n)
  (r.count, r.flag)

theorem test_timer :
    timerAt .by8 3 1 = (2, false) ∧ timerAt .by8 3 8 = (2, false) ∧ timerAt .by8 3 9 = (1, false)
      ∧ timerAt .by8 3 24 = (0, false) ∧ timerAt .by8 3 25 = (0xFF, true) ∧ timerAt .by8 3 27 = (0xFD, true)
      ∧ timerAt .by1 0 1 = (0xFF, true) ∧ timerAt .by1 1 2 = (0xFF, true) ∧ timerAt .by64 1 64 = (0, false)
      ∧ timerAt .by64 1 65 = (0xFF, true) := by
  decide +kernel

theorem test_ports :
    (busRead 0x0280 { State.reset with riot := { resetRiot with ddrA := 0xF0, orA := 0xA0 } }).1 = 0xAF
      ∧ (busRead 0x0280 State.reset).1 = 0xFF ∧ (busWrite 0x0281 0x5A State.reset).riot.ddrA = 0x5A
      ∧ (busWrite 0x0284 0x5A State.reset) = State.reset ∧ (busWrite 0x0295 0x02 State.reset).riot.div = .by8 := by
  refine ⟨by decide +kernel, by decide +kernel, by decide +kernel, rfl, by decide +kernel⟩

/-! The TIA (95_test_vectors.md section 2.10). -/

/-- A machine on the first line at a horizontal clock, with these TIA registers. -/
def beamAt (h : Nat) (r : TiaRegs) : State := { code [0xEA] with tia := { resetTia with hcount := h, regs := r } }

/-- Section 2.10.1: a fetch held from h 9 waits 73 cycles and starts at h 0 of the next line. -/
theorem test_wsync_hold :
    let s := hold { beamAt 9 resetTiaRegs with tia := { resetTia with hcount := 9, waiting := true } }
    s.cycles = 73 ∧ s.tia.hcount = 0 ∧ s.tia.vcount = 1 ∧ s.tia.waiting = false := by
  decide +kernel

theorem test_wsync_strobe :
    (writeCycle 0x0002 0 (beamAt 6 resetTiaRegs)).tia.waiting = true
      ∧ (writeCycle 0x0002 0 (beamAt 225 resetTiaRegs)).tia.waiting = false := by
  decide +kernel

/-- The columns the playfield is drawn in. -/
def pfColumns (pf0 pf1 pf2 ctrlpf : Byte) : List Nat :=
  (List.range 160).filter
    (TiaRegs.playfieldAt { resetTiaRegs with pf0 := pf0, pf1 := pf1, pf2 := pf2, ctrlpf := ctrlpf })

theorem test_playfield :
    pfColumns 0x10 0 0 0 = [0, 1, 2, 3, 80, 81, 82, 83] ∧ pfColumns 0x10 0 0 1 = [0, 1, 2, 3, 156, 157, 158, 159]
      ∧ pfColumns 0 0x80 0 0 = [16, 17, 18, 19, 96, 97, 98, 99] ∧ pfColumns 0 0x01 0 0 = [44, 45, 46, 47, 124, 125, 126, 127]
      ∧ pfColumns 0 0 0x01 0 = [48, 49, 50, 51, 128, 129, 130, 131] ∧ pfColumns 0 0 0x80 1 = [76, 77, 78, 79, 80, 81, 82, 83] := by
  decide +kernel

/-- Section 2.10.3: RESP0 in horizontal blank leaves 157, which column 3 finds at 0, and with he = 69 leaves 155. -/
theorem test_resp0 :
    (writeCycle 0x0010 0 (beamAt 6 resetTiaRegs)).tia.pos.p0 = 157
      ∧ (writeCycle 0x0010 0 (beamAt 66 resetTiaRegs)).tia.pos.p0 = 155
      ∧ (writeCycle 0x0012 0 (beamAt 147 resetTiaRegs)).tia.pos.m0 = 156 := by
  decide +kernel

/-- The columns of a player whose counter is 0 in column 0. -/
def playerColumns (nusiz shape refp : Byte) : List Nat :=
  (List.range 160).filter fun c => playerActive (st 0 0 0 0 0 0 []).params c nusiz shape refp

theorem test_players :
    playerColumns 0 0x80 0 = [0] ∧ playerColumns 1 0x80 0 = [0, 16] ∧ playerColumns 3 0x80 0 = [0, 16, 32]
      ∧ playerColumns 6 0x80 0 = [0, 32, 64] ∧ playerColumns 5 0x80 0 = [1, 2] ∧ playerColumns 7 0x80 0 = [1, 2, 3, 4]
      ∧ playerColumns 0 0x01 0x08 = [0] ∧ playerColumns 0 0xFF 0 = [0, 1, 2, 3, 4, 5, 6, 7] := by
  decide +kernel

theorem test_missile_and_ball :
    (List.range 160).filter (fun c => missileActive c 0x30 0x02 0) = [0, 1, 2, 3, 4, 5, 6, 7]
      ∧ missileActive 0 0x30 0x02 0x02 = false ∧ (List.range 160).filter (fun c => ballActive c 0x02 0x10) = [0, 1] := by
  decide +kernel

/-- Section 2.10.4: the pulse counts of the five motion values. -/
theorem test_motion_pulses :
    pulseCount 0x00 = 8 ∧ pulseCount 0x10 = 9 ∧ pulseCount 0x70 = 15 ∧ pulseCount 0x80 = 0 ∧ pulseCount 0xF0 = 7 := by
  decide +kernel

/-- An HMOVE at h 6 sets the extended blank, one at h 69 does not (R375). -/
theorem test_hmove :
    (busWrite 0x002A 0 (beamAt 6 resetTiaRegs)).tia.motion = ⟨true, 0, true⟩
      ∧ (busWrite 0x002A 0 (beamAt 69 resetTiaRegs)).tia.motion = ⟨true, 0, false⟩ := by
  decide +kernel

/-- Section 2.10.3: GRP0 = $AA, GRP1 = $55, GRP0 = $FF under VDEL_RULE cross. -/
theorem test_vertical_delay :
    let p := (st 0 0 0 0 0 0 []).params
    let r := (((resetTiaRegs.write p .grp0 0xAA).write p .grp1 0x55).write p .grp0 0xFF)
    r.grp0New = 0xFF ∧ r.grp0Old = 0xAA ∧ r.grp1New = 0x55 ∧ r.grp1Old = 0x55 := by
  decide +kernel

/-- Nothing active. -/
def idle : Active where
  p0 := false
  p1 := false
  m0 := false
  m1 := false
  bl := false
  pf := false

/-- Section 2.10.5: the latches an overlap of P0, P1 and the playfield sets, and no other. -/
theorem test_collisions :
    noCollisions.collide { idle with p0 := true, p1 := true, pf := true }
      = { noCollisions with p0pf := true, p1pf := true, p0p1 := true } := by
  decide +kernel

/-- Registers whose colours tell the drawables apart: player 0 $10, player 1 $20, playfield $30, background $40. -/
def colours (ctrlpf : Byte) : TiaRegs :=
  { resetTiaRegs with colup0 := 0x10, colup1 := 0x20, colupf := 0x30, colubk := 0x40, ctrlpf := ctrlpf }

theorem test_priority :
    let p := (st 0 0 0 0 0 0 []).params
    (colours 0).colour p { idle with p0 := true, pf := true } 0 = 0x10
      ∧ (colours 4).colour p { idle with p0 := true, pf := true } 0 = 0x30
      ∧ (colours 0).colour p { idle with p1 := true, m0 := true } 0 = 0x10
      ∧ (colours 0).colour { p with pmPriority := .playersFirst } { idle with p1 := true, m0 := true } 0 = 0x20
      ∧ (colours 0).colour p { idle with p1 := true, bl := true } 0 = 0x20
      ∧ (colours 2).colour p { idle with pf := true } 10 = 0x10 ∧ (colours 2).colour p { idle with pf := true } 90 = 0x20
      ∧ (colours 2).colour p { idle with bl := true } 10 = 0x30 ∧ (colours 0).colour p idle 10 = 0x40 := by
  decide +kernel

/-- Section 2.10.6: bit 7 of INPT4 and of INPT0, whatever the undriven bits, and the latch of FIRE0. -/
theorem test_inputs (noise : Byte) :
    let pressed := { resetInputs with fire0 := false, pad0 := true }
    let dumped : Tia := { resetTia with regs := { resetTiaRegs with vblank := 0x80 } }
    (resetTia.value pressed noise 0xC).getLsbD 7 = false ∧ (resetTia.value pressed noise 0x8).getLsbD 7 = true
      ∧ (dumped.value pressed noise 0x8).getLsbD 7 = false := by
  simp only [Tia.value, drive1, Tia.paddle, Tia.button]
  revert noise
  decide +kernel

theorem test_button_latch :
    let pressed := { resetInputs with fire0 := false }
    let latched := sampleInputs pressed (busWrite 0x0001 0x40 State.reset)
    latched.tia.latch4 = false ∧ (sampleInputs resetInputs latched).tia.latch4 = false
      ∧ (busWrite 0x0001 0 latched).tia.latch4 = true := by
  decide +kernel

/-- R352, R396: the last tick of line 261 hands the raster off and starts a fresh one. -/
theorem test_frame_completes :
    let p := (st 0 0 0 0 0 0 []).params
    let t := Tia.tick p { resetTia with hcount := 227, vcount := 261, raster := [(0, [(3, 0x1E)])] }
    t.hcount = 0 ∧ t.vcount = 0 ∧ t.frames = [[(0, [(3, 0x1E)])]] ∧ t.raster = [] := by
  decide +kernel

/-- R395: the row written on line 40 becomes row 0. -/
theorem test_row_committed :
    let p := (st 0 0 0 0 0 0 []).params
    (Tia.tick p { resetTia with hcount := 227, vcount := 40, regs := { resetTiaRegs with colubk := 0x1E } }).raster
      = [(0, [(159, 0x1E)])] := by
  decide +kernel

/-- R384: RSYNC under reset_hcount ends the line at once; the row, on line 40, becomes row 0. -/
theorem test_rsync :
    let s := beamAt 6 resetTiaRegs
    let u := writeCycle 0x0003 0 { s with
      params := { s.params with rsyncEffect := .resetHcount }
      tia := { s.tia with hcount := 147, vcount := 40, line := [(3, 0x1E)], regs := { resetTiaRegs with vblank := 2 } } }
    u.tia.hcount = 0 ∧ u.tia.vcount = 41 ∧ u.tia.line = [] ∧ u.tia.raster = [(0, [(3, 0x1E)])]
      ∧ (writeCycle 0x0003 0 s).tia.hcount = 9 := by
  decide +kernel

/-- R354: the write that sets VSYNC bit 1 hands the raster off under VSYNC_RESETS_LINE, and one that leaves it set does not. -/
theorem test_vsync_starts_frame :
    let s := beamAt 6 resetTiaRegs
    let lined : State := { s with
      params := { s.params with vsyncResetsLine := true }
      tia := { s.tia with vcount := 250, raster := [(0, [(3, 0x1E)])] } }
    let t := busWrite 0x0000 0x02 lined
    t.tia.vcount = 0 ∧ t.tia.frames = [[(0, [(3, 0x1E)])]] ∧ t.tia.raster = []
      ∧ (busWrite 0x0000 0x02 { t with tia := { t.tia with vcount := 9 } }).tia.vcount = 9 := by
  decide +kernel

/-- The host asks a refused cartridge for a reset and then supplies one that is accepted (R433, log 20). -/
def another : State :=
  { code [] with
    cart := { rom := image 3000 0 [], mapper := .none, bank := 0 }
    host := [.reset, .load (image 2048 0 []) .none] }

/-- R433: with a refused image there is no reset to take, and the image the host supplies next is taken. -/
theorem test_load_after_refused_reset :
    step another = .fault (.invalidCartridge 3000 .none { another with host := another.host.tail })
      ∧ ∃ t, step { another with host := another.host.tail } = .next t :=
  ⟨rfl, exists_of_isNext (by decide +kernel)⟩

/-! For every obligation with hypotheses, a state and operands that meet them; where it has several clauses, one for
each, at a boundary of its range. -/

theorem test_hyp_DecodeReadsBackEveryEncoding : (Instr.jsr 0xFFFF).wf = true ∧ (Instr.unimpl 0xFF).wf = true := by
  decide +kernel

theorem test_hyp_EveryByteStringHasOneReading :
    decode [0xA9, 0x42, 0xEA] = .ok (.ldaImm 0x42) [0xEA] ∧ instrLength 0x4C = 2 + 1 := by
  decide +kernel

/-- One byte, three bytes, and JSR's two fetched bytes. -/
theorem test_hyp_StepRunsTheDecodedInstruction :
    (code [0xEA]).running = true ∧ (code [0xEA]).host = []
      ∧ mnemonic .nop ≠ .jsr ∧ decode (fetchBytes 1 (sampleInputs resetInputs (code [0xEA]))).1 = .ok .nop []
      ∧ decode (fetchBytes 3 (sampleInputs resetInputs (code [0xAD, 0x80, 0x00]))).1 = .ok (.ldaAbs 0x0080) []
      ∧ (fetchBytes 2 (sampleInputs resetInputs (code [0x20, 0x12, 0xF0]))).1 = [0x20, 0x12] := by
  decide +kernel

/-- No action waiting; a sample waiting while VBLANK bit 6 = 1. -/
theorem test_hyp_InputsAreSampledBeforeEachStep :
    let s : State := { code [0xEA] with host := [.sample resetInputs, .reset] }
    (code [0xEA]).running = true ∧ (code [0xEA]).host = [] ∧ resetInputs = (code [0xEA]).inputs
      ∧ s.running = true ∧ s.host = .sample resetInputs :: [.reset] := by
  decide +kernel

theorem test_hyp_UndocumentedOpcodeStopsTheMachine :
    (code [0xFF]).running = true ∧ (code [0xFF]).host = []
      ∧ (fetchByte (sampleInputs (code [0xFF]).inputs (code [0xFF]))).1 ∈ undocumentedBytes := by
  decide +kernel

/-- The fault state, with no action and with a sample; a refused image, with no action, with a sample and with a reset. -/
theorem test_hyp_StoppedMachineStaysStopped :
    let stopped : State := { code [] with fault := some ⟨0x02, 0xF000, 1⟩ }
    let sampled : State := { stopped with host := [.sample resetInputs] }
    let refused : State := { code [] with cart := { rom := image 3000 0 [], mapper := .none, bank := 0 } }
    let asked : State := { refused with host := [.reset] }
    let polled : State := { refused with host := [.sample resetInputs] }
    stopped.cart.valid = true ∧ stopped.fault = some ⟨0x02, 0xF000, 1⟩ ∧ stopped.host = []
      ∧ sampled.cart.valid = true ∧ sampled.fault = stopped.fault ∧ sampled.host = .sample resetInputs :: []
      ∧ refused.cart.valid = false ∧ refused.host = [] ∧ asked.cart.valid = false ∧ asked.host = .reset :: []
      ∧ polled.cart.valid = false ∧ polled.host = .sample resetInputs :: [] := by
  decide +kernel

/-- Under mapper `none` and under F8, from the fault state too. -/
theorem test_hyp_HostResetReinitialises :
    let s : State := { code [] with host := [.reset], fault := some ⟨0x02, 0xF000, 1⟩ }
    let f8 : State := { s with cart := { rom := image 8192 0 [], mapper := .f8, bank := 1 } }
    s.cart.valid = true ∧ s.host = .reset :: [] ∧ s.cart.mapper = .none ∧ f8.cart.valid = true ∧ f8.host = .reset :: [] := by
  decide +kernel

/-- Sizes that are accepted, and ones next to them that are not. -/
theorem test_hyp_CartridgeIsCheckedAtLoad :
    ({ code [] with host := [.load (image 2048 0 []) .none] } : State).host = .load (image 2048 0 []) .none :: []
      ∧ ({ rom := image 2048 0 [], mapper := .none, bank := 0 } : Cart).valid = true
      ∧ ({ rom := image 4097 0 [], mapper := .none, bank := 0 } : Cart).valid = false
      ∧ ({ rom := image 8192 0 [], mapper := .f8, bank := 0 } : Cart).valid = true
      ∧ ({ rom := image 16384 0 [], mapper := .f6, bank := 0 } : Cart).valid = true
      ∧ ({ rom := image 32768 0 [], mapper := .f4, bank := 0 } : Cart).valid = true
      ∧ ({ rom := image 32768 0 [], mapper := .f6, bank := 0 } : Cart).valid = false := by
  decide +kernel

theorem test_hyp_BusDropsHighAddressBits : (0x1FFF : Word).toNat % 8192 = (0xFFFF : Word).toNat % 8192 := by
  decide +kernel

/-- A write of the byte read, a write of another byte, a write elsewhere, and PC at the byte. -/
theorem test_hyp_RamReadsBackTheLastWrite :
    let s := st 0 0 0 0xFF 0 0x01FF [(0x7F, 0x42)]
    isRam 0x01FF = true ∧ s.ram.wf = true ∧ s.cpu.pc = 0x01FF
      ∧ isRam 0x00FF = true ∧ (0x00FF : Word).toNat % 128 = (0x01FF : Word).toNat % 128
      ∧ isRam 0x0080 = true ∧ (0x0080 : Word).toNat % 128 ≠ (0x01FF : Word).toNat % 128 ∧ isRam 0x1000 = false := by
  decide +kernel

/-- Each mapper; its first and last hotspot and the offsets next to them lie in the window. -/
theorem test_hyp_CartridgeReadsItsImage :
    let hotspots := [(MapperId.f8, 0xFF8, 2), (MapperId.f6, 0xFF6, 4), (MapperId.f4, 0xFF4, 8)]
    (code []).cart.mapper = .none
      ∧ (({ rom := image 8192 0 [], mapper := .f8, bank := 0 } : Cart).mapper, 0xFF8, 2) ∈ hotspots
      ∧ (({ rom := image 16384 0 [], mapper := .f6, bank := 0 } : Cart).mapper, 0xFF6, 4) ∈ hotspots
      ∧ (({ rom := image 32768 0 [], mapper := .f4, bank := 0 } : Cart).mapper, 0xFF4, 8) ∈ hotspots
      ∧ [(0xFFF7 : Word), 0xFFF8, 0xFFF9, 0xFFFA, 0xFFF6, 0xFFF4, 0xFFFB, 0xFFFC, 0xF000, 0xFFFF].all isCart = true := by
  decide +kernel

/-- A step that runs an instruction; one that takes a load. -/
theorem test_hyp_StepsKeepImageAndParameters :
    (∃ t, step (code [0xEA]) = .next t) ∧ (∀ rom id rest, (code [0xEA]).host ≠ .load rom id :: rest)
      ∧ ∃ t, step { code [] with host := [.load (image 4096 0 []) .none] } = .next t :=
  ⟨exists_of_isNext (by decide +kernel), by simp [code, withRom, st, State.reset], exists_of_isNext (by decide +kernel)⟩

/-- A store to RAM, with the RAM in canonical form; one to the TIA, whose clause about RAM does not apply. -/
theorem test_hyp_StoresWriteTheRegister :
    let s := st 0x42 0x7F 0 0xFF 0 0xF002 [(0, 1)]
    isRam (effAddr true (.zpx 0x80) s).1 = true ∧ s.ram.wf = true ∧ isRam (effAddr true (.zp 0x7F) s).1 = false := by
  decide +kernel

theorem test_hyp_ShiftsAndRotates :
    let s := st 0 0 0 0xFF 0 0xF002 [(0, 0xC0)]
    isRam (effAddr true (.zp 0x80) s).1 = true ∧ s.ram.wf = true := by
  decide +kernel

theorem test_hyp_IncrementsAndDecrements :
    let s := st 0 0 0 0xFF 0 0xF003 [(0x7F, 0xFF)]
    isRam (effAddr true (.abs 0x01FF) s).1 = true ∧ s.ram.wf = true := by
  decide +kernel

/-- Not taken; taken to the last address of the page; taken to the first one of the next, and back past address 0. -/
theorem test_hyp_BranchesFollowTheirFlag :
    (!(fl 0b100000).n) = false ∧ (!(fl 0).n) = true
      ∧ (BitVec.ofInt 16 (0xF080 + 0x7F) : Word).toNat / 256 = (0xF080 : Word).toNat / 256
      ∧ (BitVec.ofInt 16 (0xF081 + 0x7F) : Word).toNat / 256 ≠ (0xF081 : Word).toNat / 256
      ∧ (BitVec.ofInt 16 (0x0000 + -1) : Word).toNat / 256 ≠ (0x0000 : Word).toNat / 256 := by
  decide +kernel

theorem test_hyp_CallsPushAndReturnsPull : (fetchBytes 2 (code [0x20, 0x12, 0xF0])).1 = [0x20, 0x12] := by
  decide +kernel

/-- PHP's byte for N = 1, I = 1, C = 1. -/
theorem test_hyp_PushesStoreBelowTheStack :
    let p := fl 0b100101
    let b : Byte := 0xB5
    b.getLsbD 7 = p.n ∧ b.getLsbD 6 = p.v ∧ b.getLsbD 5 = true ∧ b.getLsbD 4 = true
      ∧ b.getLsbD 3 = p.d ∧ b.getLsbD 2 = p.i ∧ b.getLsbD 1 = p.z ∧ b.getLsbD 0 = p.c := by
  decide +kernel

/-- The lowest S at which a JSR's bytes, and at which a BRK's bytes, are all in RAM. -/
theorem test_hyp_ReturnsUndoCallsAndTraps :
    (∃ t, 0x81 ≤ (st 0 0 0 0x81 0 0xF002 []).cpu.s.toNat ∧ (st 0 0 0 0x81 0 0xF002 []).ram.wf = true
      ∧ exec (.jsr 0xF012) (st 0 0 0 0x81 0 0xF002 []) = .next t)
      ∧ ∃ t, 0x82 ≤ (st 0 0 0 0x82 0 0xF002 []).cpu.s.toNat ∧ (st 0 0 0 0x82 0 0xF002 []).ram.wf = true
        ∧ exec (.brk 0) (st 0 0 0 0x82 0 0xF002 []) = .next t :=
  ⟨⟨_, by decide, rfl, rfl⟩, ⟨_, by decide, rfl, rfl⟩⟩

theorem test_hyp_DecimalArithmeticOnDigits : (0 : Nat) < 100 ∧ (99 : Nat) < 100 := by decide

theorem test_hyp_EveryDocumentedInstructionCompletes : mnemonic (.brk 0) ≠ .unimpl ∧ mnemonic .nop ≠ .unimpl := by decide

/-- A store that reaches one byte of RAM and not the next; one that reaches the TIA; one that reaches the RIOT; none. -/
theorem test_hyp_StoresChangeOnlyTheirTargets :
    (∃ t, exec (.staZp 0x80) (code []) = .next t) ∧ isRam 0x0081 = true
      ∧ (stores (.staZp 0x80) (code [])).all (fun a => !sameRamByte a 0x0081 && !isTia a && !isRiot a) = true
      ∧ (stores (.staZp 0x7F) (code [])).all (fun a => !isRam a && isTia a) = true
      ∧ (stores (.staAbs 0x0294) (code [])).all (fun a => !isRam a && isRiot a) = true
      ∧ stores (.ldaZp 0x80) (code []) = [] :=
  ⟨⟨_, rfl⟩, by decide +kernel⟩

/-- An instruction outside every list but the flags', one outside the control transfers alone. -/
theorem test_hyp_OnlyListedInstructionsWriteARegister :
    (∃ t, exec .nop (code []) = .next t)
      ∧ mnemonic .nop ∉ accumulatorWriters ++ xWriters ++ yWriters ++ stackWriters ++ controlTransfers
      ∧ mnemonic .nop ∉ carryWriters ++ zeroNegativeWriters ++ overflowWriters ++ decimalWriters ++ interruptWriters
      ∧ mnemonic .plp ∉ accumulatorWriters ++ xWriters ++ yWriters ++ controlTransfers :=
  ⟨⟨_, rfl⟩, by decide⟩

/-- An undocumented byte; a plain instruction; a JSR whose pushes miss WSYNC. -/
theorem test_hyp_InstructionsTakeTheirCycles :
    (code [0x02]).tia.waiting = false ∧ mnemonic (fetchInstr (code [0x02])).1 = .unimpl
      ∧ mnemonic (fetchInstr (code [0xEA])).1 ≠ .unimpl
      ∧ mnemonic (fetchInstr (code [0x20, 0x12, 0xF0])).1 = .jsr
      ∧ (stores (fetchInstr (code [0x20, 0x12, 0xF0])).1 (fetchInstr (code [0x20, 0x12, 0xF0])).2).all
        (fun a => !(isTia a && decide (a.toNat % 64 = 2))) = true := by
  decide +kernel

/-- The last cycle of the last line, after whose ticks the line ends; the first cycle of a line, after whose it does not. -/
theorem test_hyp_CycleMovesTheBeamByThree :
    BeamInRange { resetTia with hcount := 225, vcount := 261 } ∧ BeamInRange resetTia
      ∧ (ticks { code [] with tia := { resetTia with hcount := 225, vcount := 261 } }).tia.hcount = 0
      ∧ (ticks (code [])).tia.hcount ≠ 0 := by
  unfold BeamInRange
  decide +kernel

/-- A strobe at h 225 and before it; the wait latch set at h 0 and at h 225; the wait latch clear. -/
theorem test_hyp_WsyncHoldsReadsToTheNextLine :
    isTia 0x0002 = true ∧ (0x0002 : Word).toNat % 64 = 2 ∧ isTia 0x0142 = true ∧ (0x0142 : Word).toNat % 64 = 2
      ∧ BeamInRange { resetTia with hcount := 225, waiting := true } ∧ BeamInRange { resetTia with waiting := true }
      ∧ resetTia.waiting = false := by
  unfold BeamInRange
  decide +kernel

theorem test_hyp_StepsKeepTheBeamInRange :
    BeamInRange { resetTia with hcount := 225, vcount := 261 }
      ∧ ∃ t, step { code [0xEA] with tia := { resetTia with hcount := 225, vcount := 261 } } = .next t :=
  ⟨by unfold BeamInRange; decide, exists_of_isNext (by decide +kernel)⟩

/-- A state with RAM, a row, a raster and a handed-off frame that list something. -/
def busy : State :=
  { code [0xEA] with
    ram := [(0x7F, 0x42)]
    tia := { resetTia with hcount := 225, vcount := 261, line := [(159, 0x1E)], raster := [(191, [(0, 0x1E)])], frames := [[]] } }

/-- The same under RSYNC_EFFECT reset_hcount. -/
def rsyncs (s : State) : State := { s with params := { s.params with rsyncEffect := .resetHcount } }

theorem test_hyp_StepsKeepTheInvariant : MachineInvariant busy ∧ ∃ t, step busy = .next t := by
  refine ⟨⟨?_, ⟨⟨?_, ?_⟩, ?_, ?_, ?_⟩, ⟨?_, ?_⟩, ⟨?_, ?_⟩, ⟨?_, ?_⟩, ?_⟩, exists_of_isNext (by decide +kernel)⟩
  · unfold BeamInRange; decide +kernel
  · intro reg; cases reg <;> decide +kernel
  · decide +kernel
  · unfold PositionsInRange; decide +kernel
  · unfold TimerInRange; decide +kernel
  · intro _; decide +kernel
  · decide +kernel
  · decide +kernel
  · decide +kernel
  · decide +kernel
  · decide +kernel
  · intro c hc
    have : c = (191, [(0, 0x1E)]) := by simpa [busy] using hc
    subst this
    exact ⟨by decide, by decide, by decide⟩
  · intro f hf
    have : f = [] := by simpa [busy] using hf
    subst this
    exact ⟨rfl, by simp⟩

theorem test_hyp_HandedOffFramesNeverChange : ∃ t, step busy = .next t := exists_of_isNext (by decide +kernel)

/-- The first offset without a register and the last one; the first register, the last one, and HMCLR; the registers with
an effect of their own; one that copies an old slot and one that does not; the bits a VSYNC and a VBLANK write test. -/
theorem test_hyp_TiaWritesAreMasked :
    (0 : BitVec 6).toNat = 0 ∧ (63 : BitVec 6).toNat = 63
      ∧ isTia 0x002D = true ∧ 45 ≤ (0x002D : Word).toNat % 64 ∧ isTia 0x007F = true ∧ 45 ≤ (0x007F : Word).toNat % 64
      ∧ [(0x0000 : Word), 0x0001, 0x0002, 0x0009, 0x001B, 0x002A, 0x002B, 0x002C].map (fun a => tiaRegAt (busOffset 6 a))
        = [some .vsync, some .vblank, some .wsync, some .colubk, some .grp0, some .hmove, some .hmclr, some .cxclr]
      ∧ TiaReg.hmp0 ≠ .hmclr
      ∧ ({ defaultParams with vsyncResetsLine := true } : Params).vsyncResetsLine = true
      ∧ resetTiaRegs.vsync.getLsbD 1 = false ∧ (0x02 : Byte).getLsbD 1 = true ∧ (0x02 : Byte).getLsbD 6 = false := by
  decide +kernel

theorem test_hyp_VerticalDelayCopies :
    defaultParams.vdelRule = .cross ∧ ({ defaultParams with vdelRule := .self } : Params).vdelRule = .self := ⟨rfl, rfl⟩

/-- The five strobes, RSYNC and its neighbours, the offsets next to the strobes, and both values of RSYNC_EFFECT, the second
with a raster that lists a row. -/
theorem test_hyp_PositionStrobesActAfterTheTicks :
    [(0x0010 : Word), 0x0011, 0x0012, 0x0013, 0x0014, 0x000F, 0x0015, 0x0002, 0x0003, 0x0004].all isTia = true
      ∧ (0x0010 : Word).toNat % 64 = 0x10 ∧ (0x0011 : Word).toNat % 64 = 0x11 ∧ (0x0012 : Word).toNat % 64 = 0x12
      ∧ (0x0013 : Word).toNat % 64 = 0x13 ∧ (0x0014 : Word).toNat % 64 = 0x14
      ∧ (0x000F : Word).toNat % 64 ≠ 0x03 ∧ (0x000F : Word).toNat % 64 < 0x10
      ∧ (0x0015 : Word).toNat % 64 ≠ 0x03 ∧ 0x14 < (0x0015 : Word).toNat % 64
      ∧ (0x0003 : Word).toNat % 64 = 0x03 ∧ defaultParams.rsyncEffect = .ignore
      ∧ (rsyncs busy).params.rsyncEffect = .resetHcount ∧ cellsWf [] (ticks (rsyncs busy)).tia.raster = true := by
  decide +kernel

/-- An HMOVE write; the first and the last clock of the window. -/
theorem test_hyp_HmoveGivesMotionPlusEightPulses :
    isTia 0x002A = true ∧ (0x002A : Word).toNat % 64 = 0x2A ∧ 0 < (6 : Nat) + 61 ∧ 66 < (6 : Nat) + 61 := by decide +kernel

/-- The last clock of horizontal blank; columns 0, 79, 80 and 159. -/
theorem test_hyp_PlayfieldPatternIsDrawn :
    ({ resetTia with hcount := 67 } : Tia).hcount < 68
      ∧ (0 : Nat) < 160 ∧ ({ resetTia with hcount := 68 } : Tia).hcount = 68 + 0
      ∧ (79 : Nat) < 160 ∧ ({ resetTia with hcount := 147 } : Tia).hcount = 68 + 79
      ∧ (80 : Nat) < 160 ∧ ({ resetTia with hcount := 148 } : Tia).hcount = 68 + 80
      ∧ (159 : Nat) < 160 ∧ ({ resetTia with hcount := 227 } : Tia).hcount = 68 + 159 := by
  decide +kernel

/-- The last clock of horizontal blank, the first visible one, the last one before the line ends, and the one that ends it, on
the last line of the frame, with a row and a raster that list something. -/
theorem test_hyp_TickWritesItsColumn :
    resetTia.line.wf = true ∧ ({ resetTia with hcount := 67 } : Tia).hcount < 68
      ∧ 68 ≤ ({ resetTia with hcount := 68 } : Tia).hcount ∧ ({ resetTia with hcount := 226 } : Tia).hcount < 227
      ∧ ({ busy.tia with hcount := 227 } : Tia).hcount = 227 ∧ busy.tia.line.wf = true
      ∧ cellsWf [] busy.tia.raster = true ∧ busy.tia.vcount = 261 := by
  decide +kernel

/-- A CXCLR write; a store to the neighbour of CXCLR. -/
theorem test_hyp_OnlyCxclrClearsCollisions :
    isTia 0x002C = true ∧ (0x002C : Word).toNat % 64 = 0x2C ∧ (∃ t, exec (.staZp 0x2B) (code []) = .next t)
      ∧ (stores (.staZp 0x2B) (code [])).all (fun a => !(isTia a && decide (a.toNat % 64 = 0x2C))) = true :=
  ⟨by decide +kernel, by decide, ⟨_, rfl⟩, by decide +kernel⟩

/-- The first and the last read offset, and the lowest and highest undriven bit. -/
theorem test_hyp_TiaReadsDriveBitsSevenAndSix :
    isTia 0x0000 = true ∧ isTia 0x000D = true ∧ isTia 0x000E = true ∧ isTia 0x007F = true ∧ (0 : Nat) < 6 ∧ (5 : Nat) < 6 := by
  decide +kernel

theorem test_hyp_RiotReadsReturnTheSelectedRegister :
    [(0x0280 : Word), 0x0281, 0x0282, 0x0283, 0x0284, 0x0285, 0x0286, 0x0287, 0x029F].all isRiot = true := by
  decide +kernel

theorem test_hyp_RiotWritesLoadTheSelectedRegister :
    [(0x0280 : Word), 0x0281, 0x0282, 0x0283, 0x0284, 0x028F, 0x0290, 0x0294, 0x0295, 0x0296, 0x0297, 0x029F].all isRiot
      = true := by
  decide +kernel

/-- The first tick, the last before the flag, and the first with it, for N = 3 and d = 8. -/
theorem test_hyp_TimerUnderflowsAfterNTimesD : 1 ≤ 1 ∧ 1 ≤ 3 * 8 ∧ 24 ≤ 3 * 8 ∧ 3 * 8 < 25 := by decide

end Sys2Proof.Tests
end

/-! The CPU registers and flags (10_state.md R31 to R39): which of them each operation, each class of instruction
and each instruction writes. -/

namespace Sys2Proof.Machine

variable {m : Mnemonic}

/-- From `p` to `q` a flag changes only where the lists of R35 name the mnemonic. -/
structure FlagsListed (m : Mnemonic) (p q : Flags) : Prop where
  c : m ∉ carryWriters → q.c = p.c
  zn : m ∉ zeroNegativeWriters → q.z = p.z ∧ q.n = p.n
  v : m ∉ overflowWriters → q.v = p.v
  d : m ∉ decimalWriters → q.d = p.d
  i : m ∉ interruptWriters → q.i = p.i

/-- From `c` to `c'` a register or flag changes only where its list of writers names the mnemonic. -/
structure CpuListed (m : Mnemonic) (c c' : Cpu) : Prop where
  a : m ∉ accumulatorWriters → c'.a = c.a
  x : m ∉ xWriters → c'.x = c.x
  y : m ∉ yWriters → c'.y = c.y
  s : m ∉ stackWriters → c'.s = c.s
  pc : m ∉ controlTransfers → c'.pc = c.pc
  flags : FlagsListed m c.p c'.p

/-- A clause about the mnemonics outside a list says nothing of one in it. The test is a `Bool`, so that it computes on
`mnemonic i` whatever the operands of `i`. -/
theorem of_listed {ws : List Mnemonic} {P : Prop} (h : ws.contains m = true) (hn : m ∉ ws) : P :=
  absurd (List.contains_iff_mem.1 h) hn

namespace FlagsListed

variable {p : Flags}

theorem refl : FlagsListed m p p := ⟨fun _ => rfl, fun _ => ⟨rfl, rfl⟩, fun _ => rfl, fun _ => rfl, fun _ => rfl⟩

theorem trans {q r : Flags} (h : FlagsListed m p q) (h' : FlagsListed m q r) : FlagsListed m p r where
  c hn := (h'.c hn).trans (h.c hn)
  zn hn := ⟨(h'.zn hn).1.trans (h.zn hn).1, (h'.zn hn).2.trans (h.zn hn).2⟩
  v hn := (h'.v hn).trans (h.v hn)
  d hn := (h'.d hn).trans (h.d hn)
  i hn := (h'.i hn).trans (h.i hn)

theorem setC (h : carryWriters.contains m = true) (b : Bool) : FlagsListed m p { p with c := b } :=
  { refl (m := m) (p := p) with c := of_listed h }

theorem setV (h : overflowWriters.contains m = true) (b : Bool) : FlagsListed m p { p with v := b } :=
  { refl (m := m) (p := p) with v := of_listed h }

theorem setD (h : decimalWriters.contains m = true) (b : Bool) : FlagsListed m p { p with d := b } :=
  { refl (m := m) (p := p) with d := of_listed h }

theorem setI (h : interruptWriters.contains m = true) (b : Bool) : FlagsListed m p { p with i := b } :=
  { refl (m := m) (p := p) with i := of_listed h }

theorem setZN (h : zeroNegativeWriters.contains m = true) (z n : Bool) : FlagsListed m p { p with z := z, n := n } :=
  { refl (m := m) (p := p) with zn := of_listed h }

theorem nz (h : zeroNegativeWriters.contains m = true) (v : Byte) : FlagsListed m p (p.nz v) := setZN h _ _

/-- The shifts write C, Z and N (42_shift_incdec.md R220 to R223). -/
theorem carryNz (hc : carryWriters.contains m = true) (hz : zeroNegativeWriters.contains m = true) (b : Bool) (v : Byte) :
    FlagsListed m p ({ p with c := b }.nz v) :=
  .trans (setC hc b) (nz hz v)

theorem compare (hc : carryWriters.contains m = true) (hz : zeroNegativeWriters.contains m = true) (r v : Byte) :
    FlagsListed m p (p.compare r v) :=
  .trans (setC hc (decide (v.toNat ≤ r.toNat))) (setZN hz _ _)

theorem bitTest (hv : overflowWriters.contains m = true) (hz : zeroNegativeWriters.contains m = true) (a v : Byte) :
    FlagsListed m p (p.bitTest a v) :=
  .trans (setV hv _) (setZN hz _ _)

section Arithmetic

variable (hc : carryWriters.contains m = true) (hz : zeroNegativeWriters.contains m = true)
  (hv : overflowWriters.contains m = true)
include hc hz hv

/-- ADC and SBC write C, V, Z and N, in either mode (41_arith_logic.md R182 to R185). -/
theorem setCVZN (c v z n : Bool) : FlagsListed m p { p with c := c, v := v, z := z, n := n } :=
  .trans (.trans (setC hc c) (setV hv v)) (setZN hz z n)

theorem adc (mode : DecimalMode) (a v : Byte) : FlagsListed m p (Machine.adc mode p a v).2 := by
  unfold Machine.adc
  split
  · cases mode <;> exact setCVZN hc hz hv _ _ _ _
  · exact setCVZN hc hz hv _ _ _ _

theorem sbc (mode : DecimalMode) (a v : Byte) : FlagsListed m p (Machine.sbc mode p a v).2 := by
  unfold Machine.sbc
  split
  · cases mode <;> exact setCVZN hc hz hv _ _ _ _
  · exact setCVZN hc hz hv _ _ _ _

end Arithmetic

/-- PLP and RTI write every flag (10_state.md R34). -/
theorem all (hc : carryWriters.contains m = true) (hz : zeroNegativeWriters.contains m = true)
    (hv : overflowWriters.contains m = true) (hd : decimalWriters.contains m = true)
    (hi : interruptWriters.contains m = true) (q : Flags) : FlagsListed m p q :=
  ⟨of_listed hc, of_listed hz, of_listed hv, of_listed hd, of_listed hi⟩

end FlagsListed

namespace CpuListed

variable {c : Cpu}

theorem refl : CpuListed m c c := ⟨fun _ => rfl, fun _ => rfl, fun _ => rfl, fun _ => rfl, fun _ => rfl, .refl⟩

theorem trans {c' c'' : Cpu} (h : CpuListed m c c') (h' : CpuListed m c' c'') : CpuListed m c c'' where
  a hn := (h'.a hn).trans (h.a hn)
  x hn := (h'.x hn).trans (h.x hn)
  y hn := (h'.y hn).trans (h.y hn)
  s hn := (h'.s hn).trans (h.s hn)
  pc hn := (h'.pc hn).trans (h.pc hn)
  flags := h.flags.trans h'.flags

theorem setA (h : accumulatorWriters.contains m = true) (v : Byte) : CpuListed m c { c with a := v } :=
  { refl (m := m) (c := c) with a := of_listed h }

theorem setX (h : xWriters.contains m = true) (v : Byte) : CpuListed m c { c with x := v } :=
  { refl (m := m) (c := c) with x := of_listed h }

theorem setY (h : yWriters.contains m = true) (v : Byte) : CpuListed m c { c with y := v } :=
  { refl (m := m) (c := c) with y := of_listed h }

theorem setS (h : stackWriters.contains m = true) (v : Byte) : CpuListed m c { c with s := v } :=
  { refl (m := m) (c := c) with s := of_listed h }

theorem setPc (h : controlTransfers.contains m = true) (w : Word) : CpuListed m c { c with pc := w } :=
  { refl (m := m) (c := c) with pc := of_listed h }

theorem setP {q : Flags} (h : FlagsListed m c.p q) : CpuListed m c { c with p := q } :=
  { refl (m := m) (c := c) with flags := h }

theorem loadA (ha : accumulatorWriters.contains m = true) (hz : zeroNegativeWriters.contains m = true) (v w : Byte) :
    CpuListed m c { c with a := v, p := c.p.nz w } :=
  .trans (.setA ha v) (.setP (.nz hz w))

theorem loadX (hx : xWriters.contains m = true) (hz : zeroNegativeWriters.contains m = true) (v w : Byte) :
    CpuListed m c { c with x := v, p := c.p.nz w } :=
  .trans (.setX hx v) (.setP (.nz hz w))

theorem loadY (hy : yWriters.contains m = true) (hz : zeroNegativeWriters.contains m = true) (v w : Byte) :
    CpuListed m c { c with y := v, p := c.p.nz w } :=
  .trans (.setY hy v) (.setP (.nz hz w))

theorem setSPc (hs : stackWriters.contains m = true) (hpc : controlTransfers.contains m = true) (v : Byte) (w : Word) :
    CpuListed m c { c with s := v, pc := w } :=
  .trans (.setS hs v) (.setPc hpc w)

end CpuListed

/-- From `s`, a next state's registers and flags change only where their lists name the mnemonic. -/
def WritesListed (m : Mnemonic) (s : State) (r : Result) : Prop := NextHas (fun t => CpuListed m s.cpu t.cpu) r

theorem jsrPushes_cpu (s : State) : (jsrPushes s).cpu = { s.cpu with s := s.cpu.s - 2 } := by simp [jsrPushes]

theorem pullByte_cpu (s : State) : (pullByte s).2.cpu = { s.cpu with s := s.cpu.s + 1 } := by simp [pullByte]

namespace WritesListed

variable {s : State}

theorem next {t : State} (h : CpuListed m s.cpu t.cpu) : WritesListed m s (.next t) := NextHas.next h

theorem readClass {f : Byte → Cpu → Cpu} {e : Addr} (hf : ∀ v c, CpuListed m c (f v c)) :
    WritesListed m s (readClass f e s) :=
  .next (by simpa using hf _ s.cpu)

theorem immClass {f : Byte → Cpu → Cpu} {v : Byte} (hf : ∀ v c, CpuListed m c (f v c)) :
    WritesListed m s (immClass f v s) :=
  .next (hf v s.cpu)

theorem writeClass {f : Cpu → Byte} {e : Addr} : WritesListed m s (writeClass f e s) :=
  .next (by simpa using CpuListed.refl)

theorem rmwClass {f : Flags → Byte → Byte × Flags} {e : Addr} (hf : ∀ p v, FlagsListed m p (f p v).2) :
    WritesListed m s (rmwClass f e s) :=
  .next (by simpa using CpuListed.setP (hf s.cpu.p _))

theorem impliedClass {f : Cpu → Cpu} (hf : ∀ c, CpuListed m c (f c)) : WritesListed m s (impliedClass f s) :=
  .next (by simpa using hf s.cpu)

theorem accClass {f : Flags → Byte → Byte × Flags} (ha : accumulatorWriters.contains m = true)
    (hf : ∀ p v, FlagsListed m p (f p v).2) : WritesListed m s (accClass f s) :=
  impliedClass fun c => .trans (.setA ha _) (.setP (hf c.p c.a))

theorem branchIf (h : controlTransfers.contains m = true) {taken : Bool} {offset : Byte} :
    WritesListed m s (branchIf taken offset s) := by
  unfold Machine.branchIf
  cases taken with
  | false => exact .next .refl
  | true =>
    refine .next ?_
    split <;> simpa using CpuListed.setPc h _

/-- JSR moves S by its pushes alone and sets PC (43_control_transfer.md R250). -/
theorem jsr (w : Word) : WritesListed .jsr s (execJsr w s) :=
  .next (by simpa [jsrPushes_cpu] using CpuListed.setSPc rfl rfl (s.cpu.s - 2) w)

theorem rts : WritesListed .rts s (execRts s) :=
  .next (by simpa using CpuListed.setSPc rfl rfl (s.cpu.s + 1 + 1) _)

/-- A trap sets I besides S and PC (43_control_transfer.md R255). -/
theorem brk (padding : Byte) : WritesListed .brk s (execBrk padding s) :=
  .next (by simpa [takeTrap] using
    CpuListed.trans (.setP (.setI rfl true)) (.setSPc rfl rfl (s.cpu.s - 2 - 1) _))

/-- The return from a trap restores every flag besides S and PC (43_control_transfer.md R256). -/
theorem rti : WritesListed .rti s (execRti s) :=
  .next (by simpa [returnFromTrap] using
    CpuListed.trans (.setP (.all rfl rfl rfl rfl rfl _)) (.setSPc rfl rfl (s.cpu.s + 1 + 1 + 1) _))

end WritesListed

/-- What every instruction writes, by the shape of its operation. -/
theorem exec_writesListed (i : Instr) (s : State) : WritesListed (mnemonic i) s (exec i s) :=
  match i with
  | .ldaImm _ | .andImm _ | .oraImm _ | .eorImm _ => .immClass fun _ _ => .loadA rfl rfl _ _
  | .ldaZp _ | .ldaZpx _ | .ldaAbs _ | .ldaAbsx _ | .ldaAbsy _ | .ldaIndx _ | .ldaIndy _
    | .andZp _ | .andZpx _ | .andAbs _ | .andAbsx _ | .andAbsy _ | .andIndx _ | .andIndy _
    | .oraZp _ | .oraZpx _ | .oraAbs _ | .oraAbsx _ | .oraAbsy _ | .oraIndx _ | .oraIndy _
    | .eorZp _ | .eorZpx _ | .eorAbs _ | .eorAbsx _ | .eorAbsy _ | .eorIndx _ | .eorIndy _ =>
    .readClass fun _ _ => .loadA rfl rfl _ _
  | .ldxImm _ => .immClass fun _ _ => .loadX rfl rfl _ _
  | .ldxZp _ | .ldxZpy _ | .ldxAbs _ | .ldxAbsy _ => .readClass fun _ _ => .loadX rfl rfl _ _
  | .ldyImm _ => .immClass fun _ _ => .loadY rfl rfl _ _
  | .ldyZp _ | .ldyZpx _ | .ldyAbs _ | .ldyAbsx _ => .readClass fun _ _ => .loadY rfl rfl _ _
  | .staZp _ | .staZpx _ | .staAbs _ | .staAbsx _ | .staAbsy _ | .staIndx _ | .staIndy _
    | .stxZp _ | .stxZpy _ | .stxAbs _ | .styZp _ | .styZpx _ | .styAbs _ => .writeClass
  | .txa | .tya => .impliedClass fun _ => .loadA rfl rfl _ _
  | .tax | .tsx | .inx | .dex => .impliedClass fun _ => .loadX rfl rfl _ _
  | .tay | .iny | .dey => .impliedClass fun _ => .loadY rfl rfl _ _
  | .txs => .impliedClass fun _ => .setS rfl _
  | .adcImm _ => .immClass fun _ _ => .trans (.setA rfl _) (.setP (.adc rfl rfl rfl _ _ _))
  | .adcZp _ | .adcZpx _ | .adcAbs _ | .adcAbsx _ | .adcAbsy _ | .adcIndx _ | .adcIndy _ =>
    .readClass fun _ _ => .trans (.setA rfl _) (.setP (.adc rfl rfl rfl _ _ _))
  | .sbcImm _ => .immClass fun _ _ => .trans (.setA rfl _) (.setP (.sbc rfl rfl rfl _ _ _))
  | .sbcZp _ | .sbcZpx _ | .sbcAbs _ | .sbcAbsx _ | .sbcAbsy _ | .sbcIndx _ | .sbcIndy _ =>
    .readClass fun _ _ => .trans (.setA rfl _) (.setP (.sbc rfl rfl rfl _ _ _))
  | .cmpImm _ | .cpxImm _ | .cpyImm _ => .immClass fun _ _ => .setP (.compare rfl rfl _ _)
  | .cmpZp _ | .cmpZpx _ | .cmpAbs _ | .cmpAbsx _ | .cmpAbsy _ | .cmpIndx _ | .cmpIndy _
    | .cpxZp _ | .cpxAbs _ | .cpyZp _ | .cpyAbs _ => .readClass fun _ _ => .setP (.compare rfl rfl _ _)
  | .bitZp _ | .bitAbs _ => .readClass fun _ _ => .setP (.bitTest rfl rfl _ _)
  | .aslAcc | .lsrAcc | .rolAcc | .rorAcc => .accClass rfl fun _ _ => .carryNz rfl rfl _ _
  | .aslZp _ | .aslZpx _ | .aslAbs _ | .aslAbsx _ | .lsrZp _ | .lsrZpx _ | .lsrAbs _ | .lsrAbsx _
    | .rolZp _ | .rolZpx _ | .rolAbs _ | .rolAbsx _ | .rorZp _ | .rorZpx _ | .rorAbs _ | .rorAbsx _ =>
    .rmwClass fun _ _ => .carryNz rfl rfl _ _
  | .incZp _ | .incZpx _ | .incAbs _ | .incAbsx _ | .decZp _ | .decZpx _ | .decAbs _ | .decAbsx _ =>
    .rmwClass fun _ _ => .nz rfl _
  | .bpl _ | .bmi _ | .bvc _ | .bvs _ | .bcc _ | .bcs _ | .bne _ | .beq _ => .branchIf rfl
  | .jmpAbs w => .next (.setPc rfl w)
  | .jmpInd w => .next (by simpa using CpuListed.setPc rfl _)
  | .jsr w => .jsr w
  | .rts => .rts
  | .brk b => .brk b
  | .rti => .rti
  | .pha | .php => .next (by simpa using CpuListed.setS rfl _)
  | .pla =>
    .next (by simpa [pullByte_cpu] using CpuListed.trans (.setS rfl _) (.loadA rfl rfl _ _))
  | .plp =>
    .next (by simpa [pullByte_cpu] using
      CpuListed.trans (.setS rfl _) (.setP (.all rfl rfl rfl rfl rfl _)))
  | .clc | .sec => .impliedClass fun _ => .setP (.setC rfl _)
  | .cli | .sei => .impliedClass fun _ => .setP (.setI rfl _)
  | .cld | .sed => .impliedClass fun _ => .setP (.setD rfl _)
  | .clv => .impliedClass fun _ => .setP (.setV rfl _)
  | .nop => .impliedClass fun _ => .refl
  | .unimpl _ => NextHas.fault

end Sys2Proof.Machine

/-! The state after reset (10_state.md R45). -/

namespace Sys2Proof.Machine

/-- The blank image of log 10 reads 0 at every offset. -/
@[simp] theorem reset_cart_peek (o : BitVec 12) : State.reset.cart.peek o = 0 := rfl

@[simp] theorem resetTiaRegs_stored (reg : TiaReg) : resetTiaRegs.stored reg = 0 := by cases reg <;> rfl

theorem reset_beamInRange : BeamInRange State.reset.tia := by
  refine ⟨?_, ?_, ?_⟩ <;> decide

theorem resetTiaRegs_masked : RegsMasked resetTiaRegs :=
  ⟨fun reg => by simp, rfl, rfl, rfl, rfl⟩

theorem reset_devicesInRange : DevicesInRange State.reset :=
  ⟨resetTiaRegs_masked, by unfold PositionsInRange; decide, ⟨Nat.le_refl 1, Nat.le_refl 1⟩, fun _ => ⟨rfl, rfl⟩⟩

/-- Nothing is listed in RAM, in the row, in the raster or among the frames. -/
theorem reset_storesFormed : StoresFormed State.reset :=
  ⟨⟨Memory.wf_nil, List.forall_mem_nil _⟩, ⟨Memory.wf_nil, List.forall_mem_nil _⟩, ⟨rfl, List.forall_mem_nil _⟩,
    List.forall_mem_nil _⟩

/-- Settles O41: the registers and flags an instruction changes are among those listed for its mnemonic. -/
theorem onlyListedInstructionsWriteARegister : Obligations.OnlyListedInstructionsWriteARegister := by
  intro i s t h
  obtain ⟨ha, hx, hy, hs, hpc, hc, hzn, hv, hd, hi⟩ := exec_writesListed i s t h
  exact ⟨ha, hx, hy, hs, hpc, hc, hzn, hv, hd, hi⟩

/-- Settles O11: the blank image's reset vector is 0, and the other values are those `State.reset` writes out. -/
theorem resetHoldsTheGivenValues : Obligations.ResetHoldsTheGivenValues := by
  have hpc : State.reset.cpu.pc = Claims.word (State.reset.cart.peek 0xFFD) (State.reset.cart.peek 0xFFC) := by
    rw [reset_cart_peek, reset_cart_peek]
    rfl
  exact ⟨hpc, rfl, rfl, rfl, rfl, rfl, rfl, rfl, rfl, rfl, rfl, rfl, rfl, rfl, rfl⟩

/-- Settles O12, from its three parts: the beam, the device registers and the stores. -/
theorem invariantHoldsAtReset : Obligations.InvariantHoldsAtReset :=
  ⟨reset_beamInRange, reset_devicesInRange, reset_storesFormed⟩

end Sys2Proof.Machine

/-! The memory family (20_memory.md): the decode table bit by bit, the units an access reaches, and what every step
keeps of the image and the parameters. -/

namespace Sys2Proof.Machine

/-- A row selects an address by the bits its mask names. -/
theorem BusRow.hits_iff (r : BusRow) (ba : BitVec 13) :
    r.hits ba = true ↔ ∀ i : Fin 13, (ba.getLsbD i && r.mask.getLsbD i) = r.base.getLsbD i := by
  rw [BusRow.hits, beq_iff_eq, BitVec.eq_of_getLsbD_eq_iff, Fin.forall_iff]
  simp only [BitVec.getLsbD_and]

theorem hits_cartridge (ba : BitVec 13) : BusRow.hits ⟨0x1000, 0x1000, .cartridge⟩ ba = ba.getLsbD 12 := by
  rw [Bool.eq_iff_iff, BusRow.hits_iff]
  simp [Fin.forall_fin_succ]

theorem hits_tia (ba : BitVec 13) : BusRow.hits ⟨0x1080, 0x0000, .tia⟩ ba = (!ba.getLsbD 7 && !ba.getLsbD 12) := by
  rw [Bool.eq_iff_iff, BusRow.hits_iff]
  simp [Fin.forall_fin_succ]

theorem hits_ram (ba : BitVec 13) :
    BusRow.hits ⟨0x1280, 0x0080, .ram⟩ ba = (ba.getLsbD 7 && !ba.getLsbD 9 && !ba.getLsbD 12) := by
  rw [Bool.eq_iff_iff, BusRow.hits_iff]
  simp [Fin.forall_fin_succ, and_assoc]

theorem hits_riot (ba : BitVec 13) :
    BusRow.hits ⟨0x1280, 0x0280, .riot⟩ ba = (ba.getLsbD 7 && ba.getLsbD 9 && !ba.getLsbD 12) := by
  rw [Bool.eq_iff_iff, BusRow.hits_iff]
  simp [Fin.forall_fin_succ, and_assoc]

/-- Settles O13: the four rows test A12, A7 and A9, and each combination of the three bits meets one row. -/
theorem decodeTableCoversEachAddressOnce : Obligations.DecodeTableCoversEachAddressOnce := by
  intro ba
  simp only [deviceAt, busTable, List.filter_cons, List.find?_cons, hits_cartridge, hits_tia, hits_ram, hits_riot]
  cases ba.getLsbD 12 with
  | true => simp
  | false =>
    cases ba.getLsbD 7 with
    | false => simp
    | true => cases ba.getLsbD 9 <;> simp

theorem busAddr_congr {a b : Word} (h : a.toNat % 8192 = b.toNat % 8192) : busAddr a = busAddr b :=
  BitVec.eq_of_toNat_eq (by simpa using h)

/-- A unit sees bits of the bus address alone. -/
theorem busOffset_congr {a b : Word} (h : busAddr a = busAddr b) {n : Nat} (hn : n ≤ 13) :
    busOffset n a = busOffset n b := by
  have low (c : Word) : busOffset n c = (busAddr c).setWidth n := (BitVec.setWidth_setWidth_of_le c hn).symm
  rw [low, low, h]

section SameBusAddress

variable {a b : Word} (h : busAddr a = busAddr b)
include h

theorem busRead_congr (s : State) : busRead a s = busRead b s := by
  simp [busRead, h, busOffset_congr h]

theorem busWrite_congr (v : Byte) (s : State) : busWrite a v s = busWrite b v s := by
  simp [busWrite, h, busOffset_congr h]

theorem busDeferred_congr (s : State) : busDeferred a s = busDeferred b s := by
  simp [busDeferred, h, busOffset_congr h]

theorem readCycle_congr (s : State) : readCycle a s = readCycle b s := by
  simp only [readCycle, busRead_congr h]

theorem writeCycle_congr (v : Byte) (s : State) : writeCycle a v s = writeCycle b v s := by
  simp only [writeCycle, busWrite_congr h, busDeferred_congr h]

end SameBusAddress

/-- Settles O14: every access is made with the bus address. -/
theorem busDropsHighAddressBits : Obligations.BusDropsHighAddressBits := by
  intro a b v s h
  exact ⟨readCycle_congr (busAddr_congr h) s, writeCycle_congr (busAddr_congr h) v s⟩

/-- A write to RAM stores its byte and changes nothing else. -/
theorem busWrite_of_isRam {a : Word} (h : isRam a = true) (v : Byte) (s : State) :
    busWrite a v s = { s with ram := s.ram.write (ramCell a) v } := by
  have hd : deviceAt (busAddr a) = .ram := by simpa [isRam] using h
  simp only [busWrite, hd, ramCell]

/-- What RAM holds at an address after a store at any address. -/
theorem storeRam_read {a b : Word} (hb : isRam b = true) {m : Memory} (hm : m.wf = true) (v : Byte) :
    (storeRam a v m).read (ramCell b) = if isRam a = true ∧ ramCell a = ramCell b then v else m.read (ramCell b) := by
  split
  · next h =>
    obtain ⟨ha, hab⟩ := h
    rw [← hab, ramAt_storeRam_self ha hm]
  · next h =>
    have hne : sameRamByte a b = false := by simpa [sameRamByte, hb] using h
    exact storeRam_read_of_ne hne hb m v

theorem fetchByte_fst (s : State) : (fetchByte s).1 = (readCycle s.cpu.pc s).1 := rfl

theorem fetchByte_pc (s : State) : (fetchByte s).2.cpu.pc = s.cpu.pc + 1 := by simp [fetchByte]

/-- Settles O15: a read cycle of RAM returns what RAM holds, and a write cycle stores in RAM where its address selects it. -/
theorem ramReadsBackTheLastWrite : Obligations.RamReadsBackTheLastWrite := by
  intro a b v s hb hm byte
  have hread (u : State) : (readCycle b u).1 = u.ram.read (ramCell b) := readCycle_of_isRam hb u
  have hbyte : (readCycle b (writeCycle a v s)).1 = byte := by
    rw [hread, writeCycle_ram, storeRam_read hb hm, ramCell_eq, ramCell_eq]
  refine ⟨?_, fun ha => ?_, ?_, readCycle_ram b s, hbyte, ?_⟩
  · rw [← ramCell_eq b]
    exact busRead_of_isRam hb s
  · rw [← ramCell_eq a]
    exact busWrite_of_isRam ha v s
  · rw [← ramCell_eq b]
    exact hread s
  · rintro rfl
    refine ⟨?_, fetchByte_pc s⟩
    rw [fetchByte_fst, writeCycle_cpu]
    exact hbyte

/-- A read of the cartridge window returns the mapper's byte and can change the bank. -/
theorem busRead_of_isCart {a : Word} (h : isCart a = true) (s : State) :
    busRead a s = (s.cart.peek (busOffset 12 a),
      { s with cart := s.cart.access (busOffset 12 a) false (s.cart.peek (busOffset 12 a)) }) := by
  have hd : deviceAt (busAddr a) = .cartridge := by simpa [isCart] using h
  simp only [busRead, hd]

/-- A write to the cartridge window can change the bank. -/
theorem busWrite_of_isCart {a : Word} (h : isCart a = true) (v : Byte) (s : State) :
    busWrite a v s = { s with cart := s.cart.access (busOffset 12 a) true v } := by
  have hd : deviceAt (busAddr a) = .cartridge := by simpa [isCart] using h
  simp only [busWrite, hd]

section Mappers

variable {c : Cart} (o : BitVec 12) (isWrite : Bool) (v : Byte)

theorem Cart.peek_of_plain (h : c.mapper = .none) : c.peek o = Rom.read c.rom (o.toNat % c.rom.size) := by
  simp [Cart.peek, Cart.record, h, mapperOf, plainMapper]

theorem Cart.access_of_plain (h : c.mapper = .none) : c.access o isWrite v = c := by
  have hr : c.record = plainMapper := by simp [Cart.record, h, mapperOf]
  rw [Cart.access, hr]
  rfl

/-- F8, F6 and F4 are the scheme of hotspots with their numbers (20_memory.md R71). -/
theorem Cart.record_of_hotspots {first n : Nat}
    (h : (c.mapper, first, n) ∈ [(MapperId.f8, 0xFF8, 2), (.f6, 0xFF6, 4), (.f4, 0xFF4, 8)]) :
    c.record = hotspotMapper n first := by
  simp only [List.mem_cons, List.not_mem_nil, or_false, Prod.mk.injEq] at h
  obtain ⟨hid, rfl, rfl⟩ | ⟨hid, rfl, rfl⟩ | ⟨hid, rfl, rfl⟩ := h <;> simp [Cart.record, hid, mapperOf]

variable {first n : Nat} (h : c.record = hotspotMapper n first)
include h

theorem Cart.peek_of_hotspots : c.peek o = Rom.read c.rom (c.bank * 4096 + o.toNat) := by
  simp [Cart.peek, h, hotspotMapper]

theorem Cart.access_of_hotspots :
    c.access o isWrite v =
      { c with bank := if first ≤ o.toNat ∧ o.toNat < first + n then o.toNat - first else c.bank } := by
  simp [Cart.access, h, hotspotMapper]

end Mappers

/-- Settles O16: an access of the window is the mapper's read and its change of bank. -/
theorem cartridgeReadsItsImage : Obligations.CartridgeReadsItsImage := by
  intro a v s ha o
  have ho : (busOffset 12 a).toNat = o := busOffset_toNat 12 a
  refine ⟨fun hp => ?_, fun first n hm => ?_, ⟨_, busWrite_of_isCart ha v s⟩, ⟨_, by rw [busRead_of_isCart ha]; rfl⟩⟩
  · rw [busRead_of_isCart ha, busWrite_of_isCart ha, Cart.peek_of_plain _ hp, Cart.access_of_plain _ _ _ hp,
      Cart.access_of_plain _ _ _ hp, ho]
    exact ⟨rfl, rfl⟩
  · have hr := Cart.record_of_hotspots hm
    rw [busRead_of_isCart ha, busWrite_of_isCart ha, Cart.peek_of_hotspots _ hr, Cart.access_of_hotspots _ _ _ hr,
      Cart.access_of_hotspots _ _ _ hr, ho]
    exact ⟨rfl, rfl⟩

/-- Whatever every cycle and an input sample keep, the CPU step of R411 keeps. -/
theorem KeptByCycles.cpuStep {W : Word → Prop} {P : State → Prop} (K : KeptByCycles W P) (hw : ∀ a, W a)
    (hs : ∀ (i : Inputs) (s : State), P s → P (sampleInputs i s)) (i : Inputs) {s : State} (h : P s) :
    NextHas P (cpuStep i s) := by
  unfold Machine.cpuStep
  split
  · split
    · exact .fault
    · exact K.runInstruction hw (hs i s h)
  · exact .fault

/-- The parameters and the waiting host actions of `t` are those of `s`. -/
structure KeepsHostSide (s t : State) : Prop where
  params : t.params = s.params
  host : t.host = s.host

/-- The image and the mapper of `t` are those of `s` as well (20_memory.md R70). -/
structure KeepsImage (s t : State) : Prop extends KeepsHostSide s t where
  rom : t.cart.rom = s.cart.rom
  mapper : t.cart.mapper = s.cart.mapper

theorem keepsImage_keptByCycles (s : State) : KeptByCycles (fun _ => True) (KeepsImage s) where
  cpu _ _ h := ⟨⟨h.params, h.host⟩, h.rom, h.mapper⟩
  ticks _ h := ⟨⟨h.params, h.host⟩, h.rom, h.mapper⟩
  read a u h :=
    ⟨⟨(busRead_params a u).trans h.params, (busRead_host a u).trans h.host⟩,
      (busRead_cart_rom a u).trans h.rom, (busRead_cart_mapper a u).trans h.mapper⟩
  write a v u _ h :=
    ⟨⟨(writeCycle_params a v u).trans h.params, (writeCycle_host a v u).trans h.host⟩,
      (writeCycle_cart_rom a v u).trans h.rom, (writeCycle_cart_mapper a v u).trans h.mapper⟩

theorem cpuStep_keepsImage (i : Inputs) (s : State) : NextHas (KeepsImage s) (cpuStep i s) :=
  (keepsImage_keptByCycles s).cpuStep (fun _ => trivial) (fun _ _ h => ⟨⟨h.params, h.host⟩, h.rom, h.mapper⟩) i
    ⟨⟨rfl, rfl⟩, rfl, rfl⟩

/-- The reset of R430 moves the bank alone in the cartridge. -/
theorem takeReset_keepsImage (s : State) : NextHas (KeepsImage s) (takeReset s) := by
  unfold takeReset
  split
  · exact .next ⟨⟨rfl, rfl⟩, rfl, rfl⟩
  · exact .fault

theorem loadCartridge_keepsHostSide (rom : Rom) (id : MapperId) (s : State) :
    NextHas (KeepsHostSide s) (loadCartridge rom id s) := by
  unfold loadCartridge
  dsimp only
  split
  · exact .next ⟨rfl, rfl⟩
  · exact .fault

/-- What a step is: the CPU step, a reset or the load that waits first, with one host action taken off the list (log 18). -/
theorem step_cases (s : State) :
    (∃ i, step s = cpuStep i { s with host := s.host.tail })
      ∨ step s = takeReset { s with host := s.host.tail }
      ∨ ∃ rom id rest, s.host = .load rom id :: rest ∧ step s = loadCartridge rom id { s with host := s.host.tail } := by
  unfold step
  split
  · next hhost => exact .inl ⟨s.inputs, by rw [hhost, List.tail_nil, ← hhost]⟩
  · next i rest hhost => exact .inl ⟨i, by rw [hhost, List.tail_cons]⟩
  · next rest hhost => exact .inr (.inl (by rw [hhost, List.tail_cons]))
  · next rom id rest hhost => exact .inr (.inr ⟨rom, id, rest, hhost, by rw [hhost, List.tail_cons]⟩)

/-- Settles O17, by what the step is. -/
theorem stepsKeepImageAndParameters : Obligations.StepsKeepImageAndParameters := by
  intro s t hstep
  obtain ⟨i, hs⟩ | hs | ⟨rom, id, rest, hhost, hs⟩ := step_cases s <;> rw [hs] at hstep
  · obtain ⟨⟨hparams, hkept⟩, hrom, hmapper⟩ := cpuStep_keepsImage i _ t hstep
    exact ⟨hparams, hkept, fun _ => ⟨hrom, hmapper⟩⟩
  · obtain ⟨⟨hparams, hkept⟩, hrom, hmapper⟩ := takeReset_keepsImage _ t hstep
    exact ⟨hparams, hkept, fun _ => ⟨hrom, hmapper⟩⟩
  · obtain ⟨hparams, hkept⟩ := loadCartridge_keepsHostSide rom id _ t hstep
    exact ⟨hparams, hkept, fun hno => absurd hhost (hno rom id rest)⟩

end Sys2Proof.Machine

/-! The encoding family (30_encoding.md): the shape of an opcode byte gives the instructions that begin with it, and the
decoder reads the bytes of such an instruction and no others. -/

namespace Sys2Proof

open Sys2Proof.Machine (mkWord)

/-- The instructions a shape gives, one for each operand it reads. -/
inductive Shape.Gives : Shape → Instr → Prop
  | bare (i : Instr) : Gives (.bare i) i
  | byte (f : Byte → Instr) (b : Byte) : Gives (.byte f) (f b)
  | word (f : Word → Instr) (w : Word) : Gives (.word f) (f w)
  | call (f : Word → Instr) (w : Word) : Gives (.call f) (f w)

/-- The shape of an instruction's opcode byte gives the instruction: R104 has every documented one at the byte that
`encode` puts first, and no row lists R110's bytes. -/
theorem exists_shapeOf_gives {i : Instr} (hwf : i.wf = true) :
    ∃ op, Claims.HasOpcode op i ∧ (shapeOf op).Gives i := by
  cases i with
  | unimpl op =>
    have hop : op ∈ undocumentedBytes := by simpa [Instr.wf] using hwf
    exact ⟨op, rfl, by rw [shapeOf_undocumented hop]; constructor⟩
  | _ => exact ⟨_, rfl, by constructor⟩

/-- An instruction that the shape of a byte gives is well-formed. -/
theorem Shape.Gives.wf {op : Byte} {i : Instr} (h : (shapeOf op).Gives i) : i.wf = true := by
  have henc := shapeOf_encodes op
  generalize shapeOf op = sh at h henc
  cases h with
  | bare i => exact henc.1
  | byte f b => exact (henc b).1
  | word f w => exact (henc w).1
  | call f w => exact (henc w).1

section Decoding

variable {op : Byte}

theorem decode_of_bare {i : Instr} (h : shapeOf op = .bare i) (rest : List Byte) :
    decode (op :: rest) = .ok i rest := by
  simp only [decode, h]

theorem decode_of_byte {f : Byte → Instr} (h : shapeOf op = .byte f) (b : Byte) (rest : List Byte) :
    decode (op :: b :: rest) = .ok (f b) rest := by
  simp only [decode, h]

theorem decode_encodeWord {f : Word → Instr} (h : shapeOf op = .word f ∨ shapeOf op = .call f) (w : Word)
    (rest : List Byte) : decode (encodeWord op w ++ rest) = .ok (f w) rest := by
  obtain h | h := h <;> simp only [encodeWord, List.cons_append, List.nil_append, decode, h, mkWord_hiByte_loByte]

theorem encodeWord_mkWord (low high : Byte) : encodeWord op (mkWord high low) = [op, low, high] := by
  rw [encodeWord, loByte_mkWord, hiByte_mkWord]

/-- The decoder reads back every instruction that the shape of a byte gives. -/
theorem Shape.Gives.decode_encode {i : Instr} (h : (shapeOf op).Gives i) (rest : List Byte) :
    decode (encode i ++ rest) = .ok i rest := by
  have henc := shapeOf_encodes op
  generalize hsh : shapeOf op = sh at h henc
  cases h with
  | bare i =>
    rw [henc.2]
    exact decode_of_bare hsh rest
  | byte f b =>
    rw [(henc b).2]
    exact decode_of_byte hsh b rest
  | word f w =>
    rw [(henc w).2]
    exact decode_encodeWord (.inl hsh) w rest
  | call f w =>
    rw [(henc w).2]
    exact decode_encodeWord (.inr hsh) w rest

/-- Bytes that reach the length of their opcode byte are the encoding of an instruction its shape gives, and a rest. -/
theorem exists_gives_of_reaches {tail : List Byte} (h : instrLength op ≤ tail.length + 1) :
    ∃ i rest, (shapeOf op).Gives i ∧ op :: tail = encode i ++ rest := by
  have henc := shapeOf_encodes op
  cases hsh : shapeOf op <;> simp only [hsh, Shape.Encodes, instrLength] at henc h
  case bare i => exact ⟨i, tail, .bare i, by rw [henc.2]; rfl⟩
  case byte f =>
    match tail, h with
    | b :: rest, _ => exact ⟨f b, rest, .byte f b, by rw [(henc b).2]; rfl⟩
  case word f | call f =>
    match tail, h with
    | low :: high :: rest, _ =>
      exact ⟨f (mkWord high low), rest, by constructor, by rw [(henc _).2, encodeWord_mkWord]; rfl⟩

/-- Bytes that end before the length of their opcode byte are truncated. -/
theorem decode_of_short {tail : List Byte} (h : tail.length + 1 < instrLength op) :
    decode (op :: tail) = .truncated op := by
  cases hsh : shapeOf op <;> simp only [hsh, instrLength] at h <;> simp only [decode, hsh]
  case bare => omega
  case byte =>
    match tail, h with
    | [], _ => rfl
  case word | call =>
    match tail, h with
    | [], _ => rfl
    | [_], _ => rfl

/-- What decodes is the encoding of an instruction that the shape of its first byte gives, and the rest. -/
theorem gives_of_decode {tail rest : List Byte} {i : Instr} (h : decode (op :: tail) = .ok i rest) :
    (shapeOf op).Gives i ∧ op :: tail = encode i ++ rest := by
  by_cases hlen : instrLength op ≤ tail.length + 1
  · obtain ⟨j, r, hg, hbytes⟩ := exists_gives_of_reaches hlen
    rw [hbytes, hg.decode_encode] at h
    obtain ⟨rfl, rfl⟩ := Decoded.ok.inj h
    exact ⟨hg, hbytes⟩
  · rw [decode_of_short (Nat.lt_of_not_le hlen)] at h
    cases h

/-- The decoder answers an instruction exactly where the bytes reach the length of their opcode byte. -/
theorem exists_decode_iff (tail : List Byte) :
    (∃ i rest, decode (op :: tail) = .ok i rest) ↔ instrLength op ≤ tail.length + 1 := by
  constructor
  · rintro ⟨i, rest, h⟩
    by_contra hlen
    rw [decode_of_short (Nat.lt_of_not_le hlen)] at h
    cases h
  · intro hlen
    obtain ⟨i, rest, hg, hbytes⟩ := exists_gives_of_reaches hlen
    exact ⟨i, rest, by rw [hbytes, hg.decode_encode]⟩

end Decoding

/-- Settles O1: the shape of the opcode byte gives the instruction, and the decoder reads back what a shape gives. -/
theorem decodeReadsBackEveryEncoding : Obligations.DecodeReadsBackEveryEncoding := by
  intro i rest hwf
  obtain ⟨op, -, hg⟩ := exists_shapeOf_gives hwf
  exact hg.decode_encode rest

/-- Settles O2: bytes that reach the length of their opcode byte are the encoding of what its shape gives, and shorter
ones are truncated. -/
theorem everyByteStringHasOneReading : Obligations.EveryByteStringHasOneReading := by
  refine ⟨fun bytes rest i h => ?_, fun op rest => exists_decode_iff rest⟩
  cases bytes with
  | nil => cases h
  | cons op tail =>
    obtain ⟨hg, hbytes⟩ := gives_of_decode h
    exact ⟨hg.wf, hbytes⟩

/-- Settles O3: the undocumented instruction of a byte encodes as that byte, and is well-formed where R110 lists it. -/
theorem unlistedBytesAreUndocumented : Obligations.UnlistedBytesAreUndocumented := by
  intro op rest
  have hwf : (Instr.unimpl op).wf = true ↔ op ∈ undocumentedBytes := by simp [Instr.wf]
  exact ⟨fun h => hwf.1 (gives_of_decode h).1.wf, fun h => decodeReadsBackEveryEncoding _ rest (hwf.2 h)⟩

/-- Settles O4, by running the decoder on each word. -/
theorem writtenOutWordsDecode : Obligations.WrittenOutWordsDecode := by
  unfold Obligations.WrittenOutWordsDecode
  decide +kernel

end Sys2Proof

/-! The frame of all instructions (40_load_store.md R131, R143): what a cycle at an address that misses a unit keeps of
that unit. -/

namespace Sys2Proof.Machine

theorem busWrite_tia_of_miss {a : Word} (h : isTia a = false) (v : Byte) (s : State) :
    (busWrite a v s).tia = s.tia := by
  have hd : deviceAt (busAddr a) ≠ .tia := by simpa [isTia] using h
  unfold busWrite
  split
  · rfl
  · next htia => exact absurd htia hd
  · rfl
  · rfl

theorem busWrite_riot_of_miss {a : Word} (h : isRiot a = false) (v : Byte) (s : State) :
    (busWrite a v s).riot = s.riot := by
  have hd : deviceAt (busAddr a) ≠ .riot := by simpa [isRiot] using h
  unfold busWrite
  split
  · rfl
  · rfl
  · rfl
  · next hriot => exact absurd hriot hd

/-- Only a store to the TIA has a deferred effect (60_exceptions.md R410 step 4). -/
theorem busDeferred_of_miss {a : Word} (h : isTia a = false) (s : State) : busDeferred a s = s := by
  have hd : deviceAt (busAddr a) ≠ .tia := by simpa [isTia] using h
  unfold busDeferred
  split
  · next htia => exact absurd htia hd
  · rfl

/-- A write cycle that misses the TIA ticks it and does no more. -/
theorem writeCycle_tia_of_miss {a : Word} (h : isTia a = false) (v : Byte) (s : State) :
    (writeCycle a v s).tia = s.tia.tick3 s.params := by
  rw [writeCycle, busDeferred_of_miss h, ticks_tia, busWrite_tia_of_miss h, busWrite_params]

/-- A write cycle that misses the RIOT ticks it and does no more. -/
theorem writeCycle_riot_of_miss {a : Word} (h : isRiot a = false) (v : Byte) (s : State) :
    (writeCycle a v s).riot = s.riot.tick := by
  rw [writeCycle, busDeferred_riot, ticks_riot, busWrite_riot_of_miss h]

/-- A bus read leaves the RIOT as it is or as a read of one of its registers leaves it (60_exceptions.md R321). -/
theorem busRead_riot (a : Word) (s : State) :
    (busRead a s).2.riot = s.riot ∨ ∃ reg, (busRead a s).2.riot = s.riot.afterRead s.params reg := by
  unfold busRead
  split
  · exact .inl rfl
  · exact .inl rfl
  · exact .inl rfl
  · exact .inr ⟨_, rfl⟩

/-- What of the TIA `u` only a store to the TIA changes from `t`: the write registers and the button latches. -/
structure KeepsTiaRegs (t u : Tia) : Prop where
  regs : u.regs = t.regs
  latch4 : u.latch4 = t.latch4
  latch5 : u.latch5 = t.latch5

theorem KeepsTiaRegs.tick3 {t u : Tia} (h : KeepsTiaRegs t u) (p : Params) : KeepsTiaRegs t (u.tick3 p) :=
  ⟨(u.tick3_regs p).trans h.regs, (u.tick3_latch4 p).trans h.latch4, (u.tick3_latch5 p).trans h.latch5⟩

/-- What of the RIOT `u` only a store to the RIOT changes from `r`: the port registers and the timer's divisor. -/
structure KeepsPorts (r u : Riot) : Prop where
  orA : u.orA = r.orA
  ddrA : u.ddrA = r.ddrA
  orB : u.orB = r.orB
  ddrB : u.ddrB = r.ddrB
  div : u.div = r.div

theorem KeepsPorts.tick {r u : Riot} (h : KeepsPorts r u) : KeepsPorts r u.tick :=
  ⟨u.tick_orA.trans h.orA, u.tick_ddrA.trans h.ddrA, u.tick_orB.trans h.orB, u.tick_ddrB.trans h.ddrB,
    u.tick_div.trans h.div⟩

theorem KeepsPorts.afterRead {r u : Riot} (h : KeepsPorts r u) (p : Params) (reg : RiotReadReg) :
    KeepsPorts r (u.afterRead p reg) :=
  ⟨(u.afterRead_orA p reg).trans h.orA, (u.afterRead_ddrA p reg).trans h.ddrA, (u.afterRead_orB p reg).trans h.orB,
    (u.afterRead_ddrB p reg).trans h.ddrB, (u.afterRead_div p reg).trans h.div⟩

/-- Beyond the image and the host's side, what no instruction changes: the inputs and the fault state. -/
structure KeepsSurroundings (s t : State) : Prop extends KeepsImage s t where
  inputs : t.inputs = s.inputs
  fault : t.fault = s.fault

section Frames

variable (s : State)

/-- Cycles that store elsewhere keep a byte of RAM. -/
theorem ramAt_keptByCycles {b : Word} (hb : isRam b = true) :
    KeptByCycles (fun a => sameRamByte a b = false) (fun t => t.ramAt b = s.ramAt b) where
  cpu _ _ h := h
  ticks _ h := h
  read a u h := by
    rw [State.ramAt, busRead_ram]
    exact h
  write a v u ha h := by
    rw [State.ramAt, writeCycle_ram, storeRam_read_of_ne ha hb]
    exact h

/-- Cycles that store elsewhere keep all of RAM, whatever its form. -/
theorem ram_keptByCycles : KeptByCycles (fun a => isRam a = false) (fun t => t.ram = s.ram) where
  cpu _ _ h := h
  ticks _ h := h
  read a u h := (busRead_ram a u).trans h
  write a v u ha h := by
    rw [writeCycle_ram, storeRam, ha]
    exact h

theorem tiaRegs_keptByCycles : KeptByCycles (fun a => isTia a = false) (fun t => KeepsTiaRegs s.tia t.tia) where
  cpu _ _ h := h
  ticks u h := h.tick3 u.params
  read a u h := by
    rw [busRead_tia]
    exact h
  write a v u ha h := by
    rw [writeCycle_tia_of_miss ha]
    exact h.tick3 u.params

theorem ports_keptByCycles : KeptByCycles (fun a => isRiot a = false) (fun t => KeepsPorts s.riot t.riot) where
  cpu _ _ h := h
  ticks _ h := h.tick
  read a u h := by
    obtain hr | ⟨reg, hr⟩ := busRead_riot a u <;> rw [hr]
    · exact h
    · exact h.afterRead u.params reg
  write a v u ha h := by
    rw [writeCycle_riot_of_miss ha]
    exact h.tick

theorem surroundings_keptByCycles : KeptByCycles (fun _ => True) (KeepsSurroundings s) where
  cpu u c h := ⟨(keepsImage_keptByCycles s).cpu u c h.toKeepsImage, h.inputs, h.fault⟩
  ticks u h := ⟨(keepsImage_keptByCycles s).ticks u h.toKeepsImage, h.inputs, h.fault⟩
  read a u h :=
    ⟨(keepsImage_keptByCycles s).read a u h.toKeepsImage, (busRead_inputs a u).trans h.inputs,
      (busRead_fault a u).trans h.fault⟩
  write a v u ha h :=
    ⟨(keepsImage_keptByCycles s).write a v u ha h.toKeepsImage, (writeCycle_inputs a v u).trans h.inputs,
      (writeCycle_fault a v u).trans h.fault⟩

end Frames

/-- Settles O40: each part is kept by every cycle whose store misses it, and an instruction's write cycles carry the
addresses of `stores`. -/
theorem storesChangeOnlyTheirTargets : Obligations.StoresChangeOnlyTheirTargets := by
  intro i s t h
  have hbyte (b : Word) (hb : isRam b = true) (hmiss : ∀ a ∈ stores i s, sameRamByte a b = false) :
      t.ramAt b = s.ramAt b :=
    (ramAt_keptByCycles s hb).exec i hmiss rfl t h
  have hram (hmiss : ∀ a ∈ stores i s, isRam a = false) : t.ram = s.ram :=
    (ram_keptByCycles s).exec i hmiss rfl t h
  have htia (hmiss : ∀ a ∈ stores i s, isTia a = false) : KeepsTiaRegs s.tia t.tia :=
    (tiaRegs_keptByCycles s).exec i hmiss ⟨rfl, rfl, rfl⟩ t h
  have hriot (hmiss : ∀ a ∈ stores i s, isRiot a = false) : KeepsPorts s.riot t.riot :=
    (ports_keptByCycles s).exec i hmiss ⟨rfl, rfl, rfl, rfl, rfl⟩ t h
  obtain ⟨⟨⟨hparams, hhost⟩, hrom, hmapper⟩, hinputs, hfault⟩ : KeepsSurroundings s t :=
    (surroundings_keptByCycles s).exec i (fun _ _ => trivial) ⟨⟨⟨rfl, rfl⟩, rfl, rfl⟩, rfl, rfl⟩ t h
  refine ⟨hbyte, hram, fun hmiss => ?_, fun hmiss => ?_, hrom, hmapper, hinputs, hfault, hhost, hparams⟩
  · obtain ⟨hregs, h4, h5⟩ := htia hmiss
    exact ⟨hregs, h4, h5⟩
  · obtain ⟨horA, hddrA, horB, hddrB, hdiv⟩ := hriot hmiss
    exact ⟨horA, hddrA, horB, hddrB, hdiv⟩

end Sys2Proof.Machine

/-! The addressing modes in numbers (40_load_store.md R130, R136 to R142). -/

namespace Sys2Proof.Machine

open Sys2Proof.Claims (addr word)

@[simp] theorem addr_toNat (n : Nat) : (addr n).toNat = n % 65536 := BitVec.toNat_ofNat n 16

/-- A word is the address of any number that is its value modulo 2^16. -/
theorem eq_addr {w : Word} {n : Nat} (h : w.toNat = n % 65536) : w = addr n :=
  BitVec.eq_of_toNat_eq (by rw [h, addr_toNat])

theorem mkWord_eq_word (h l : Byte) : mkWord h l = word h l := by
  refine eq_addr ?_
  have := h.isLt
  have := l.isLt
  rw [mkWord_toNat]
  omega

theorem pageZero_eq_addr (b : Byte) : pageZero b = addr b.toNat := by
  refine eq_addr ?_
  have := b.isLt
  have h0 : (0 : Byte).toNat = 0 := rfl
  rw [pageZero, mkWord_toNat, h0]
  omega

theorem byte_add_toNat (b c : Byte) : (b + c).toNat = (b.toNat + c.toNat) % 256 := BitVec.toNat_add b c

/-- A pointer's two cycles, whose second address wraps in page 0 (R140, R141). -/
theorem zpPointer_eq (b : Byte) (s : State) :
    zpPointer b s =
      let lo := readCycle (addr b.toNat) s
      let hi := readCycle (addr ((b.toNat + 1) % 256)) lo.2
      (word hi.1 lo.1, hi.2) := by
  have h1 : (b + 1).toNat = (b.toNat + 1) % 256 := byte_add_toNat b 1
  simp only [zpPointer, pageZero_eq_addr, h1, mkWord_eq_word]

theorem indexed_eq_addr (base : Word) (idx : Byte) : indexed base idx = addr (base.toNat + idx.toNat) :=
  eq_addr (by rw [indexed, BitVec.toNat_add, zeroExtendByte_toNat])

theorem unfixed_eq_addr (base : Word) (idx : Byte) :
    unfixed base idx = addr (base.toNat / 256 * 256 + (base.toNat % 256 + idx.toNat) % 256) := by
  refine eq_addr ?_
  have := base.isLt
  rw [unfixed, mkWord_toNat, hiByte_toNat, BitVec.toNat_add, loByte_toNat]
  omega

/-- A page is crossed where the low bytes carry (R130), past $FFFF too. -/
theorem crossesPage_iff (base : Word) (idx : Byte) :
    crossesPage base idx = true ↔ 255 < base.toNat % 256 + idx.toNat := by
  have := base.isLt
  have := idx.isLt
  rw [crossesPage, bne_iff_ne, Ne, ← BitVec.toNat_inj, hiByte_toNat, hiByte_toNat, indexed_eq_addr, addr_toNat]
  omega

/-- The indexed address and its fix-up cycle (R139, R141, R142). -/
theorem indexCycles_eq (always : Bool) (base : Word) (idx : Byte) (s : State) :
    indexCycles always base idx s = (addr (base.toNat + idx.toNat),
      if always = true ∨ 255 < base.toNat % 256 + idx.toNat then
        dummyRead (addr (base.toNat / 256 * 256 + (base.toNat % 256 + idx.toNat) % 256)) s
      else s) := by
  simp only [indexCycles, Bool.or_eq_true, crossesPage_iff, indexed_eq_addr, unfixed_eq_addr]

/-- Settles O18, mode by mode. -/
theorem effectiveAddresses : Obligations.EffectiveAddresses := by
  intro always s x y fixup
  refine ⟨fun b => ?_, fun b => ?_, fun b => ?_, fun w => rfl, fun w => ?_, fun w => ?_, fun b => ?_, fun b => ?_⟩
  · rw [effAddr, pageZero_eq_addr]
  · rw [effAddr, pageZero_eq_addr, pageZero_eq_addr, byte_add_toNat]
  · rw [effAddr, pageZero_eq_addr, pageZero_eq_addr, byte_add_toNat]
  · exact indexCycles_eq always w s.cpu.x s
  · exact indexCycles_eq always w s.cpu.y s
  · rw [effAddr, zpPointer_eq, pageZero_eq_addr, byte_add_toNat, Nat.mod_add_mod]
  · rw [effAddr, zpPointer_eq]
    exact indexCycles_eq always _ s.cpu.y _

end Sys2Proof.Machine

/-! What an instruction of a class does, from the class of its operation (40_load_store.md R131, R133). -/

namespace Sys2Proof.Claims

open Sys2Proof.Machine

/-- `NZ(v)` of the model is that of 00_scope.md R12 in numbers. -/
theorem flagsNz_eq (p : Flags) (v : Byte) : p.nz v = nz p v := by
  have hn : bitAt v 7 = v.msb := (BitVec.msb_eq_getLsbD_last v).symm
  have hz : (v == 0) = decide (v.toNat = 0) := by
    rw [Bool.eq_iff_iff, beq_iff_eq, decide_eq_true_iff, ← BitVec.toNat_inj]
    rfl
  rw [Flags.nz, nz, hn, hz]

section Reads

variable {op : Byte} {i : Instr} {f g : DecimalMode → Byte → Cpu → Cpu}

/-- A read-class instruction on a memory operand whose operation is `g`. -/
theorem ReadsTo.mem (hf : f = g) {m : Addr} (hop : HasOpcode op i)
    (hi : ∀ s, exec i s = readClass (f s.params.decimalMode) m s) : ReadsTo op i (.mem m) g := by
  refine ⟨hop, fun s => ?_⟩
  rw [hi, readClass, State.mapCpu_eq, readOperand_cpu, hf]
  rfl

/-- A read-class instruction on an immediate operand whose operation is `g`. -/
theorem ReadsTo.imm (hf : f = g) {v : Byte} (hop : HasOpcode op i)
    (hi : ∀ s, exec i s = immClass (f s.params.decimalMode) v s) : ReadsTo op i (.imm v) g := by
  refine ⟨hop, fun s => ?_⟩
  rw [hi, hf]
  rfl

end Reads

/-- A write-class instruction that stores the register `reg`. -/
theorem WritesTo.of_writeClass {op : Byte} {i : Instr} {m : Addr} {reg : Cpu → Byte} (hop : HasOpcode op i)
    (hi : ∀ s, exec i s = writeClass reg m s) : WritesTo op i m reg := by
  refine ⟨hop, fun s => ⟨hi s, ?_, fun hram hwf => ?_⟩⟩
  · rw [writeCycle_cpu, effAddr_cpu]
  · rw [State.ramAt, writeCycle_ram, effAddr_ram, ramAt_storeRam_self hram hwf]

/-- A two-cycle implied instruction whose operation is `g`. -/
theorem Implied.of_impliedClass {op : Byte} {i : Instr} {f g : Cpu → Cpu} (hf : f = g) (hop : HasOpcode op i)
    (hi : ∀ s, exec i s = impliedClass f s) : Implied op i g := by
  refine ⟨hop, fun s => ?_⟩
  rw [hi, impliedClass, State.mapCpu_eq, dummyRead_cpu, hf]

theorem cpuLda_eq : (fun _ => Cpu.lda) = lda := by
  funext _ m c
  rw [Cpu.lda, lda, flagsNz_eq]

theorem cpuLdx_eq : (fun _ => Cpu.ldx) = ldx := by
  funext _ m c
  rw [Cpu.ldx, ldx, flagsNz_eq]

theorem cpuLdy_eq : (fun _ => Cpu.ldy) = ldy := by
  funext _ m c
  rw [Cpu.ldy, ldy, flagsNz_eq]

theorem cpuTax_eq : Cpu.tax = fun c => { c with x := c.a, p := nz c.p c.a } := by
  funext c
  rw [Cpu.tax, flagsNz_eq]

theorem cpuTay_eq : Cpu.tay = fun c => { c with y := c.a, p := nz c.p c.a } := by
  funext c
  rw [Cpu.tay, flagsNz_eq]

theorem cpuTxa_eq : Cpu.txa = fun c => { c with a := c.x, p := nz c.p c.x } := by
  funext c
  rw [Cpu.txa, flagsNz_eq]

theorem cpuTya_eq : Cpu.tya = fun c => { c with a := c.y, p := nz c.p c.y } := by
  funext c
  rw [Cpu.tya, flagsNz_eq]

theorem cpuTsx_eq : Cpu.tsx = fun c => { c with x := c.s, p := nz c.p c.s } := by
  funext c
  rw [Cpu.tsx, flagsNz_eq]

/-- Settles O19: each form is of the read class, on its mode, with its register's load. -/
theorem loadsCopyTheOperand : Obligations.LoadsCopyTheOperand :=
  ⟨fun _ => .imm cpuLda_eq rfl fun _ => rfl, fun _ => .mem cpuLda_eq rfl fun _ => rfl,
    fun _ => .mem cpuLda_eq rfl fun _ => rfl, fun _ => .mem cpuLda_eq rfl fun _ => rfl,
    fun _ => .mem cpuLda_eq rfl fun _ => rfl, fun _ => .mem cpuLda_eq rfl fun _ => rfl,
    fun _ => .mem cpuLda_eq rfl fun _ => rfl, fun _ => .mem cpuLda_eq rfl fun _ => rfl,
    fun _ => .imm cpuLdx_eq rfl fun _ => rfl, fun _ => .mem cpuLdx_eq rfl fun _ => rfl,
    fun _ => .mem cpuLdx_eq rfl fun _ => rfl, fun _ => .mem cpuLdx_eq rfl fun _ => rfl,
    fun _ => .mem cpuLdx_eq rfl fun _ => rfl,
    fun _ => .imm cpuLdy_eq rfl fun _ => rfl, fun _ => .mem cpuLdy_eq rfl fun _ => rfl,
    fun _ => .mem cpuLdy_eq rfl fun _ => rfl, fun _ => .mem cpuLdy_eq rfl fun _ => rfl,
    fun _ => .mem cpuLdy_eq rfl fun _ => rfl⟩

/-- Settles O20: each form is of the write class, on its mode, with its register. -/
theorem storesWriteTheRegister : Obligations.StoresWriteTheRegister := by
  unfold Obligations.StoresWriteTheRegister
  refine ⟨?_, ?_, ?_, ?_, ?_, ?_, ?_, ?_, ?_, ?_, ?_, ?_, ?_⟩ <;> exact fun _ => .of_writeClass rfl fun _ => rfl

/-- Settles O21: each transfer is of the implied class, with its copy. -/
theorem transfersCopyRegisters : Obligations.TransfersCopyRegisters :=
  ⟨.of_impliedClass cpuTax_eq rfl fun _ => rfl, .of_impliedClass cpuTay_eq rfl fun _ => rfl,
    .of_impliedClass cpuTxa_eq rfl fun _ => rfl, .of_impliedClass cpuTya_eq rfl fun _ => rfl,
    .of_impliedClass cpuTsx_eq rfl fun _ => rfl, .of_impliedClass rfl rfl fun _ => rfl⟩

end Sys2Proof.Claims

/-! The bytes and sums of 41_arith_logic.md in numbers (00_scope.md R11, R180). -/

namespace Sys2Proof.Machine

open Sys2Proof.Claims (s8)

theorem carryNat_eq_toNat (c : Bool) : carryNat c = c.toNat := by cases c <;> rfl

theorem carryNat_le (c : Bool) : carryNat c ≤ 1 := by
  rw [carryNat_eq_toNat]
  exact c.toNat_le

theorem getLsbD_seven (b : Byte) : b.getLsbD 7 = decide (128 ≤ b.toNat) :=
  (BitVec.msb_eq_getLsbD_last b).symm.trans (BitVec.msb_eq_decide b)

/-- The mask $80 leaves bit 7 alone. -/
theorem bitAt_seven_eq_mask (b : Byte) : bitAt b 7 = decide (b &&& 0x80 ≠ 0) := by
  have hmask : b &&& 0x80 = if b.getLsbD 7 then 0x80 else 0 := BitVec.and_twoPow b 7
  rw [bitAt, hmask]
  cases b.getLsbD 7 <;> rfl

theorem signedByte_eq_s8 (b : Byte) : signedByte b = s8 b.toNat := by
  rw [signedByte, BitVec.toInt_eq_toNat_cond, s8]
  split <;> split <;> omega

theorem highNibble_toNat (b : Byte) : (b &&& 0xF0).toNat = b.toNat / 16 * 16 := by
  have hshift : (b >>> 4) <<< 4 = b &&& (0xF0 : Byte) := BitVec.shiftLeft_ushiftRight
  have := b.isLt
  rw [← hshift, BitVec.toNat_shiftLeft, BitVec.toNat_ushiftRight, Nat.shiftRight_eq_div_pow, Nat.shiftLeft_eq]
  omega

theorem xor_FF_eq_not (m : Byte) : m ^^^ 0xFF = ~~~m := BitVec.xor_allOnes

theorem not_toNat (m : Byte) : (~~~m).toNat = 255 - m.toNat := BitVec.toNat_not

theorem sum9_toNat (a m : Byte) (c : Bool) : (sum9 a m c).toNat = a.toNat + m.toNat + carryNat c := by
  have := a.isLt
  have := m.isLt
  have := c.toNat_le
  simp only [sum9, BitVec.toNat_add, BitVec.toNat_setWidth, BitVec.toNat_ofBool, carryNat_eq_toNat]
  omega

theorem sum9_setWidth (a m : Byte) (c : Bool) :
    (sum9 a m c).setWidth 8 = BitVec.ofNat 8 (a.toNat + m.toNat + carryNat c) := by
  rw [← sum9_toNat, BitVec.ofNat_toNat]

theorem sum9_setWidth_beq_zero (a m : Byte) (c : Bool) :
    ((sum9 a m c).setWidth 8 == 0#8) = decide ((a.toNat + m.toNat + carryNat c) % 256 = 0) := by
  rw [sum9_setWidth, beq_eq_decide, decide_eq_decide, ← BitVec.toNat_inj]
  rfl

/-- The carry is bit 8 of the sum (R180). -/
theorem sum9_carry (a m : Byte) (c : Bool) :
    (sum9 a m c).getLsbD 8 = decide (256 ≤ a.toNat + m.toNat + carryNat c) := by
  rw [← sum9_toNat]
  exact (BitVec.msb_eq_getLsbD_last _).symm.trans (BitVec.msb_eq_decide _)

end Sys2Proof.Machine

/-! Binary ADC and SBC in numbers (41_arith_logic.md R180, R184, R185). -/

namespace Sys2Proof.Machine

open Sys2Proof.Claims (s8)

theorem adcBinary_fst (p : Flags) (a m : Byte) :
    (adcBinary p a m).1 = BitVec.ofNat 8 (a.toNat + m.toNat + carryNat p.c) := sum9_setWidth a m p.c

theorem adcBinary_fst_toNat (p : Flags) (a m : Byte) :
    (adcBinary p a m).1.toNat = (a.toNat + m.toNat + carryNat p.c) % 256 := by
  rw [adcBinary_fst, BitVec.toNat_ofNat]

theorem adcBinary_c (p : Flags) (a m : Byte) :
    (adcBinary p a m).2.c = decide (256 ≤ a.toNat + m.toNat + carryNat p.c) := sum9_carry a m p.c

theorem adcBinary_v (p : Flags) (a m : Byte) :
    (adcBinary p a m).2.v = bitAt (~~~(a ^^^ m) &&& (a ^^^ (adcBinary p a m).1)) 7 := rfl

/-- V says that the operands have one sign and the result the other, which is signed overflow (R180). -/
theorem adcBinary_v_eq (p : Flags) (a m : Byte) :
    (adcBinary p a m).2.v = decide (s8 a.toNat + s8 m.toNat + carryNat p.c < -128
      ∨ 127 < s8 a.toNat + s8 m.toNat + carryNat p.c) := by
  have hsigns (r : Byte) : bitAt (~~~(a ^^^ m) &&& (a ^^^ r)) 7 = true ↔
      (128 ≤ a.toNat ↔ 128 ≤ m.toNat) ∧ ¬(128 ≤ a.toNat ↔ 128 ≤ r.toNat) := by
    rw [bitAt, BitVec.getLsbD_and, BitVec.getLsbD_not, BitVec.getLsbD_xor, BitVec.getLsbD_xor]
    simp only [getLsbD_seven]
    simp
  have := a.isLt
  have := m.isLt
  have := carryNat_le p.c
  rw [Bool.eq_iff_iff, decide_eq_true_iff, adcBinary_v, hsigns, adcBinary_fst_toNat, s8, s8]
  split <;> split <;> omega

/-- The overflow bits of an addition of the complement of `m` (R184) are those of the subtraction of `m` (R185). -/
theorem overflowBits_not (a m r : Byte) : ~~~(a ^^^ ~~~m) &&& (a ^^^ r) = (a ^^^ r) &&& (a ^^^ m) := by
  rw [BitVec.not_xor_right, BitVec.not_not, BitVec.and_comm]

/-- Subtraction is addition of the complement (R185). -/
theorem sbcBinary_eq_adcBinary (p : Flags) (a m : Byte) : sbcBinary p a m = adcBinary p a (~~~m) := by
  simp only [sbcBinary, adcBinary, xor_FF_eq_not, overflowBits_not]

/-- The carry of SBC is the inverse of the borrow (R180). -/
theorem sbcBinary_c (p : Flags) (a m : Byte) :
    (sbcBinary p a m).2.c = decide (m.toNat + 1 ≤ a.toNat + carryNat p.c) := by
  have := m.isLt
  rw [sbcBinary_eq_adcBinary, adcBinary_c, not_toNat, decide_eq_decide]
  omega

theorem s8_not (m : Byte) : s8 (~~~m).toNat = -1 - s8 m.toNat := by
  have := m.isLt
  rw [not_toNat, s8, s8]
  split <;> split <;> omega

/-- Settles O24: SBC is ADC of the complement, which is 255 - m unsigned and -1 - m signed. -/
theorem carryAndOverflowAreExact : Obligations.CarryAndOverflowAreExact := by
  intro p a m add sub sum diff
  have := a.isLt
  have := m.isLt
  have := carryNat_le p.c
  have hsub : sub = adcBinary p a (~~~m) := sbcBinary_eq_adcBinary p a m
  have hdiff : s8 a.toNat + s8 (~~~m).toNat + carryNat p.c = diff := by
    rw [s8_not]
    omega
  refine ⟨adcBinary_fst_toNat p a m, adcBinary_c p a m, adcBinary_v_eq p a m, ?_, ?_, ?_⟩
  · rw [hsub, adcBinary_fst_toNat, not_toNat]
    omega
  · rw [sbcBinary_c, decide_eq_decide]
    omega
  · rw [hsub, adcBinary_v_eq, hdiff]

end Sys2Proof.Machine

/-! Decimal ADC and SBC on two-digit numbers (41_arith_logic.md R182, R183). -/

namespace Sys2Proof.Machine

open Sys2Proof.Claims (bcd)

/-- The sum that decimal ADC forms before it drops the carry (R182). -/
def decimalSum (a m : Byte) (c : Bool) : Nat :=
  let r := (a &&& 0xF0).toNat + (m &&& 0xF0).toNat + decimalAddLow a m c
  if 0xA0 ≤ r then r + 0x60 else r

/-- The difference that decimal SBC forms before it drops the borrow (R183). -/
def decimalDiff (a m : Byte) (c : Bool) : Int :=
  let r : Int := (a &&& 0xF0).toNat - (m &&& 0xF0).toNat + decimalSubLow a m c
  if r < 0 then r - 0x60 else r

theorem adcDecimal_fst (p : Flags) (a m : Byte) : (adcDecimal p a m).1 = BitVec.ofNat 8 (decimalSum a m p.c) := rfl

theorem adcDecimal_c (p : Flags) (a m : Byte) : (adcDecimal p a m).2.c = decide (256 ≤ decimalSum a m p.c) := rfl

theorem sbcDecimal_fst (p : Flags) (a m : Byte) : (sbcDecimal p a m).1 = BitVec.ofInt 8 (decimalDiff a m p.c) := rfl

theorem bcd_toNat {n : Nat} (h : n < 100) : (bcd n).toNat = n / 10 * 16 + n % 10 := by
  rw [bcd, BitVec.toNat_ofNat]
  omega

theorem bcd_low {n : Nat} (h : n < 100) : (bcd n).toNat % 16 = n % 10 := by
  rw [bcd_toNat h]
  omega

theorem bcd_high {n : Nat} (h : n < 100) : (bcd n &&& 0xF0).toNat = n / 10 * 16 := by
  rw [highNibble_toNat, bcd_toNat h]
  omega

section Digits

variable {x y : Nat} (hx : x < 100) (hy : y < 100) (c : Bool)
include hx hy

/-- A low digit of 10 or more carries 16 into the high digit. -/
theorem decimalAddLow_bcd :
    decimalAddLow (bcd x) (bcd y) c =
      if 10 ≤ x % 10 + y % 10 + carryNat c then x % 10 + y % 10 + carryNat c + 6
      else x % 10 + y % 10 + carryNat c := by
  have := carryNat_le c
  simp only [decimalAddLow, bcd_low hx, bcd_low hy]
  split
  · omega
  · rfl

/-- The two-digit sum stands in the low byte; 100 carries 256. -/
theorem decimalSum_bcd :
    decimalSum (bcd x) (bcd y) c =
      (x + y + carryNat c) / 100 * 256 + (bcd ((x + y + carryNat c) % 100)).toNat := by
  have := carryNat_le c
  have hs : (x + y + carryNat c) % 100 < 100 := Nat.mod_lt _ (by decide)
  simp only [decimalSum, bcd_high hx, bcd_high hy, decimalAddLow_bcd hx hy, bcd_toNat hs]
  split <;> split <;> omega

/-- A low digit below 0 borrows 16 from the high digit. -/
theorem decimalSubLow_bcd :
    decimalSubLow (bcd x) (bcd y) c =
      if x % 10 + carryNat c ≤ y % 10 then (x % 10 : Nat) - (y % 10 : Nat) + carryNat c - (7 : Int)
      else (x % 10 : Nat) - (y % 10 : Nat) + carryNat c - (1 : Int) := by
  have := carryNat_le c
  simp only [decimalSubLow, bcd_low hx, bcd_low hy]
  split <;> split <;> omega

/-- The two-digit difference stands in the low byte; 100 borrows 256. The 99 in place of -1 keeps it a natural number. -/
theorem decimalDiff_bcd :
    decimalDiff (bcd x) (bcd y) c =
      (((x + 99 + carryNat c - y) / 100 : Nat) - 1) * 256 + (bcd ((x + 99 + carryNat c - y) % 100)).toNat := by
  have := carryNat_le c
  have hs : (x + 99 + carryNat c - y) % 100 < 100 := Nat.mod_lt _ (by decide)
  simp only [decimalDiff, bcd_high hx, bcd_high hy, decimalSubLow_bcd hx hy, bcd_toNat hs]
  split <;> split <;> omega

end Digits

theorem sbcDecimal_c (p : Flags) (a m : Byte) :
    (sbcDecimal p a m).2.c = decide (m.toNat + 1 ≤ a.toNat + carryNat p.c) := sbcBinary_c p a m

/-- Settles O25: both results are the BCD of the decimal result with a carry or a borrow of 256 for each 100. -/
theorem decimalArithmeticOnDigits : Obligations.DecimalArithmeticOnDigits := by
  intro p x y hx hy
  have := carryNat_le p.c
  refine ⟨?_, ?_, ?_, ?_⟩
  · refine BitVec.eq_of_toNat_eq ?_
    have := (bcd ((x + y + carryNat p.c) % 100)).isLt
    rw [adcDecimal_fst, decimalSum_bcd hx hy, BitVec.toNat_ofNat]
    omega
  · have := (bcd ((x + y + carryNat p.c) % 100)).isLt
    rw [adcDecimal_c, decimalSum_bcd hx hy, decide_eq_decide]
    omega
  · refine BitVec.eq_of_toNat_eq ?_
    have := (bcd ((x + 99 + carryNat p.c - y) % 100)).isLt
    rw [sbcDecimal_fst, decimalDiff_bcd hx hy, BitVec.toNat_ofInt]
    omega
  · rw [sbcDecimal_c, bcd_toNat hx, bcd_toNat hy, decide_eq_decide]
    omega

end Sys2Proof.Machine

/-! The operations of 41_arith_logic.md are those of the statements. -/

namespace Sys2Proof.Machine

/-- Decimal arithmetic needs both D and DECIMAL_MODE nmos_bcd (R181). -/
theorem adc_eq_ite (mode : DecimalMode) (p : Flags) (a m : Byte) :
    adc mode p a m = if p.d = true ∧ mode = .nmosBcd then adcDecimal p a m else adcBinary p a m := by
  cases mode <;> simp [adc]

/-- Decimal arithmetic needs both D and DECIMAL_MODE nmos_bcd (R181). -/
theorem sbc_eq_ite (mode : DecimalMode) (p : Flags) (a m : Byte) :
    sbc mode p a m = if p.d = true ∧ mode = .nmosBcd then sbcDecimal p a m else sbcBinary p a m := by
  cases mode <;> simp [sbc]

end Sys2Proof.Machine

namespace Sys2Proof.Claims

open Sys2Proof.Machine

/-- The flags of ADC are those of R184: NZ of the result, V by the mask $80 and C the carry of the sum. -/
theorem adcBinary_snd (p : Flags) (a m : Byte) :
    (adcBinary p a m).2 =
      { nz p (adcBinary p a m).1 with
        v := decide (~~~(a ^^^ m) &&& (a ^^^ (adcBinary p a m).1) &&& 0x80 ≠ 0)
        c := decide (256 ≤ a.toNat + m.toNat + carryNat p.c) } := by
  rw [← bitAt_seven_eq_mask, ← sum9_carry, ← flagsNz_eq]
  rfl

theorem adcDecimal_eq_adcBcd (m : Byte) (c : Cpu) :
    { c with a := (adcDecimal c.p c.a m).1, p := (adcDecimal c.p c.a m).2 } = adcBcd m c := by
  simp only [adcDecimal, decimalAddLow, adcBcd, highNibble_toNat, signedByte_eq_s8, sum9_setWidth_beq_zero,
    Bool.decide_or]

theorem cpuAdc_eq : Cpu.adc = adc := by
  funext mode m c
  rw [Cpu.adc, adc_eq_ite, adc]
  split
  · exact adcDecimal_eq_adcBcd m c
  · rw [adcBinary_snd, adcBinary_fst]

theorem sbcBinary_fst (p : Flags) (a m : Byte) :
    (sbcBinary p a m).1 = BitVec.ofNat 8 (a.toNat + (255 - m.toNat) + carryNat p.c) := by
  rw [sbcBinary_eq_adcBinary, adcBinary_fst, not_toNat]

theorem sbcBinary_snd (m : Byte) (c : Cpu) : (sbcBinary c.p c.a m).2 = sbcFlags m c := by
  rw [sbcBinary_eq_adcBinary, adcBinary_snd, overflowBits_not, adcBinary_fst, not_toNat, sbcFlags]

/-- The flags of decimal SBC are those of the binary subtraction (R183). -/
theorem sbcDecimal_snd (m : Byte) (c : Cpu) : (sbcDecimal c.p c.a m).2 = sbcFlags m c := sbcBinary_snd m c

theorem cpuSbc_eq : Cpu.sbc = sbc := by
  funext mode m c
  rw [Cpu.sbc, sbc_eq_ite]
  by_cases h : c.p.d = true ∧ mode = .nmosBcd
  · simp only [sbc, if_pos h, sbcDecimal_snd, sbcDecimal_fst, decimalDiff, decimalSubLow, highNibble_toNat]
  · simp only [sbc, if_neg h, sbcBinary_snd, sbcBinary_fst]

theorem cpuAnd_eq : (fun _ => Cpu.and) = and := by
  funext _ m c
  rw [Cpu.and, and, flagsNz_eq]

theorem cpuOra_eq : (fun _ => Cpu.ora) = ora := by
  funext _ m c
  rw [Cpu.ora, ora, flagsNz_eq]

theorem cpuEor_eq : (fun _ => Cpu.eor) = eor := by
  funext _ m c
  rw [Cpu.eor, eor, flagsNz_eq]

theorem flagsCompare_eq (p : Flags) (r m : Byte) : p.compare r m = compare p r m := by
  have hn : bitAt (r - m) 7 = decide (128 ≤ (r.toNat + 256 - m.toNat) % 256) := by
    have := m.isLt
    rw [bitAt, getLsbD_seven, BitVec.toNat_sub, decide_eq_decide]
    omega
  rw [Flags.compare, compare, hn, beq_eq_decide]

theorem cpuCmp_eq : (fun _ => Cpu.cmp) = cmp := by
  funext _ m c
  rw [Cpu.cmp, cmp, flagsCompare_eq]

theorem cpuCpx_eq : (fun _ => Cpu.cpx) = cpx := by
  funext _ m c
  rw [Cpu.cpx, cpx, flagsCompare_eq]

theorem cpuCpy_eq : (fun _ => Cpu.cpy) = cpy := by
  funext _ m c
  rw [Cpu.cpy, cpy, flagsCompare_eq]

theorem cpuBit_eq : (fun _ => Cpu.bit) = bit := by
  funext _ m c
  rw [Cpu.bit, Flags.bitTest, beq_eq_decide]
  rfl

/-- Settles O22: each form is of the read class, on its mode, with the addition of `cpuAdc_eq`. -/
theorem adcAddsWithCarry : Obligations.AdcAddsWithCarry :=
  ⟨fun _ => .imm cpuAdc_eq rfl fun _ => rfl, fun _ => .mem cpuAdc_eq rfl fun _ => rfl,
    fun _ => .mem cpuAdc_eq rfl fun _ => rfl, fun _ => .mem cpuAdc_eq rfl fun _ => rfl,
    fun _ => .mem cpuAdc_eq rfl fun _ => rfl, fun _ => .mem cpuAdc_eq rfl fun _ => rfl,
    fun _ => .mem cpuAdc_eq rfl fun _ => rfl, fun _ => .mem cpuAdc_eq rfl fun _ => rfl⟩

/-- Settles O23: each form is of the read class, on its mode, with the subtraction of `cpuSbc_eq`. -/
theorem sbcSubtractsWithBorrow : Obligations.SbcSubtractsWithBorrow :=
  ⟨fun _ => .imm cpuSbc_eq rfl fun _ => rfl, fun _ => .mem cpuSbc_eq rfl fun _ => rfl,
    fun _ => .mem cpuSbc_eq rfl fun _ => rfl, fun _ => .mem cpuSbc_eq rfl fun _ => rfl,
    fun _ => .mem cpuSbc_eq rfl fun _ => rfl, fun _ => .mem cpuSbc_eq rfl fun _ => rfl,
    fun _ => .mem cpuSbc_eq rfl fun _ => rfl, fun _ => .mem cpuSbc_eq rfl fun _ => rfl⟩

/-- Settles O26: each form is of the read class, on its mode, with its bitwise operation. -/
theorem logicCombinesWithA : Obligations.LogicCombinesWithA :=
  ⟨fun _ => .imm cpuAnd_eq rfl fun _ => rfl, fun _ => .mem cpuAnd_eq rfl fun _ => rfl,
    fun _ => .mem cpuAnd_eq rfl fun _ => rfl, fun _ => .mem cpuAnd_eq rfl fun _ => rfl,
    fun _ => .mem cpuAnd_eq rfl fun _ => rfl, fun _ => .mem cpuAnd_eq rfl fun _ => rfl,
    fun _ => .mem cpuAnd_eq rfl fun _ => rfl, fun _ => .mem cpuAnd_eq rfl fun _ => rfl,
    fun _ => .imm cpuOra_eq rfl fun _ => rfl, fun _ => .mem cpuOra_eq rfl fun _ => rfl,
    fun _ => .mem cpuOra_eq rfl fun _ => rfl, fun _ => .mem cpuOra_eq rfl fun _ => rfl,
    fun _ => .mem cpuOra_eq rfl fun _ => rfl, fun _ => .mem cpuOra_eq rfl fun _ => rfl,
    fun _ => .mem cpuOra_eq rfl fun _ => rfl, fun _ => .mem cpuOra_eq rfl fun _ => rfl,
    fun _ => .imm cpuEor_eq rfl fun _ => rfl, fun _ => .mem cpuEor_eq rfl fun _ => rfl,
    fun _ => .mem cpuEor_eq rfl fun _ => rfl, fun _ => .mem cpuEor_eq rfl fun _ => rfl,
    fun _ => .mem cpuEor_eq rfl fun _ => rfl, fun _ => .mem cpuEor_eq rfl fun _ => rfl,
    fun _ => .mem cpuEor_eq rfl fun _ => rfl, fun _ => .mem cpuEor_eq rfl fun _ => rfl⟩

/-- Settles O27: each form is of the read class, on its mode, with the flags of its compare or test. -/
theorem comparesAndBitSetFlags : Obligations.ComparesAndBitSetFlags :=
  ⟨fun _ => .imm cpuCmp_eq rfl fun _ => rfl, fun _ => .mem cpuCmp_eq rfl fun _ => rfl,
    fun _ => .mem cpuCmp_eq rfl fun _ => rfl, fun _ => .mem cpuCmp_eq rfl fun _ => rfl,
    fun _ => .mem cpuCmp_eq rfl fun _ => rfl, fun _ => .mem cpuCmp_eq rfl fun _ => rfl,
    fun _ => .mem cpuCmp_eq rfl fun _ => rfl, fun _ => .mem cpuCmp_eq rfl fun _ => rfl,
    fun _ => .imm cpuCpx_eq rfl fun _ => rfl, fun _ => .mem cpuCpx_eq rfl fun _ => rfl,
    fun _ => .mem cpuCpx_eq rfl fun _ => rfl,
    fun _ => .imm cpuCpy_eq rfl fun _ => rfl, fun _ => .mem cpuCpy_eq rfl fun _ => rfl,
    fun _ => .mem cpuCpy_eq rfl fun _ => rfl,
    fun _ => .mem cpuBit_eq rfl fun _ => rfl, fun _ => .mem cpuBit_eq rfl fun _ => rfl⟩

end Sys2Proof.Claims

/-! The shifts, rotates, increments and decrements of 42_shift_incdec.md in numbers (R220 to R229). -/

namespace Sys2Proof.Machine

theorem bitAt_zero (b : Byte) : bitAt b 0 = decide (b.toNat % 2 = 1) := Nat.testBit_zero b.toNat

theorem carryNat_eq_one_iff (c : Bool) : carryNat c = 1 ↔ c = true := by
  rw [carryNat_eq_toNat, Bool.toNat_eq_one]

theorem carryByte_toNat (c : Bool) : ((BitVec.ofBool c).setWidth 8).toNat = carryNat c := by
  cases c <;> rfl

theorem shiftLeft_one_toNat (m : Byte) : (m <<< 1).toNat = 2 ^ 1 * (m.toNat % 128) := by
  rw [BitVec.toNat_shiftLeft, Nat.shiftLeft_eq]
  omega

theorem shiftRight_one_toNat (m : Byte) : (m >>> 1).toNat = m.toNat / 2 := by
  rw [BitVec.toNat_ushiftRight, Nat.shiftRight_eq_div_pow]

theorem carryByte_shiftLeft_seven_toNat (c : Bool) :
    ((BitVec.ofBool c).setWidth 8 <<< 7).toNat = 2 ^ 7 * carryNat c := by
  cases c <;> rfl

theorem shiftLeft_one_eq (m : Byte) : m <<< 1 = BitVec.ofNat 8 (m.toNat * 2) := by bv_omega

theorem shiftRight_one_eq (m : Byte) : m >>> 1 = BitVec.ofNat 8 (m.toNat / 2) := by bv_omega

/-- The carry enters at bit 0, which the left shift empties, so that the two add up (R222). -/
theorem rotateLeft_eq (m : Byte) (c : Bool) :
    (m <<< 1) ||| (BitVec.ofBool c).setWidth 8 = BitVec.ofNat 8 (m.toNat * 2 + carryNat c) := by
  have hc : carryNat c < 2 ^ 1 := Nat.lt_succ_of_le (carryNat_le c)
  refine BitVec.eq_of_toNat_eq ?_
  rw [BitVec.toNat_or, shiftLeft_one_toNat, carryByte_toNat, ← Nat.two_pow_add_eq_or_of_lt hc, BitVec.toNat_ofNat]
  omega

/-- The carry enters at bit 7, which the right shift empties, so that the two add up (R223). -/
theorem rotateRight_eq (m : Byte) (c : Bool) :
    (m >>> 1) ||| ((BitVec.ofBool c).setWidth 8 <<< 7) = BitVec.ofNat 8 (m.toNat / 2 + 128 * carryNat c) := by
  have := carryNat_le c
  have hm : m.toNat / 2 < 2 ^ 7 := by omega
  refine BitVec.eq_of_toNat_eq ?_
  rw [BitVec.toNat_or, Nat.or_comm, shiftRight_one_toNat, carryByte_shiftLeft_seven_toNat,
    ← Nat.two_pow_add_eq_or_of_lt hm, BitVec.toNat_ofNat]
  omega

/-- Bit 7 of a right rotate is the carry that enters; a right shift is one with no carry (R221, R223). -/
theorem msb_half_add_carry (m : Byte) (c : Bool) : (BitVec.ofNat 8 (m.toNat / 2 + 128 * carryNat c)).msb = c := by
  have := carryNat_le c
  rw [BitVec.msb_eq_decide, BitVec.toNat_ofNat, Bool.eq_iff_iff, decide_eq_true_iff, ← carryNat_eq_one_iff]
  omega

/-- A store keeps the canonical form of RAM. -/
theorem storeRam_wf {m : Memory} (h : m.wf = true) (a : Word) (v : Byte) : (storeRam a v m).wf = true := by
  unfold storeRam
  split
  · exact Memory.wf_write _ v h
  · exact h

end Sys2Proof.Machine

namespace Sys2Proof.Claims

open Sys2Proof.Machine

/-- NZ of the result leaves the carry a shift has set. -/
theorem flagsNz_setC (p : Flags) (b : Bool) (r : Byte) : { p with c := b }.nz r = { nz p r with c := b } :=
  flagsNz_eq { p with c := b } r

theorem aslByte_eq : aslByte = asl := by
  funext p m
  simp only [aslByte, asl, shiftLeft_one_eq, flagsNz_setC, bitAt, getLsbD_seven]

theorem lsrByte_eq : lsrByte = lsr := by
  funext p m
  have hn : (BitVec.ofNat 8 (m.toNat / 2)).msb = false := msb_half_add_carry m false
  simp only [lsrByte, lsr, shiftRight_one_eq, flagsNz_setC, bitAt_zero, nz, hn]

theorem rolByte_eq : rolByte = rol := by
  funext p m
  simp only [rolByte, rol, rotateLeft_eq, flagsNz_setC, bitAt, getLsbD_seven]

theorem rorByte_eq : rorByte = ror := by
  funext p m
  simp only [rorByte, ror, rotateRight_eq, flagsNz_setC, bitAt_zero, nz, msb_half_add_carry]

theorem incByte_eq : incByte = inc := by
  funext p m
  have hr : m + 1 = BitVec.ofNat 8 (m.toNat + 1) := by bv_omega
  rw [incByte, inc, flagsNz_eq, hr]

theorem decByte_eq : decByte = dec := by
  funext p m
  have hr : m - 1 = BitVec.ofNat 8 (m.toNat + 255) := by bv_omega
  rw [decByte, dec, flagsNz_eq, hr]

section Modifying

variable {op : Byte} {i : Instr} {f g : Flags → Byte → Byte × Flags}

/-- A read-modify-write instruction whose operation is `g`: RAM keeps its form through the first write, so that the second
is read back (40_load_store.md R143). -/
theorem Modifies.of_rmwClass (hf : f = g) {m : Addr} (hop : HasOpcode op i) (hi : ∀ s, exec i s = rmwClass f m s) :
    Modifies op i m g := by
  refine ⟨hop, fun s => ⟨?_, fun hram hwf => ⟨?_, ?_⟩⟩⟩
  · rw [hi, rmwClass, State.mapCpu_eq, modifyOperand_cpu, hf]
    rfl
  · rw [readCycle_of_isRam hram, State.ramAt, effAddr_ram, State.ramAt]
  · simp only [State.ramAt, writeCycle_ram, readCycle_ram, effAddr_ram]
    exact ramAt_storeRam_self hram (storeRam_wf hwf _ _) _

/-- An accumulator form whose operation is `g` (40_load_store.md R134). -/
theorem ShiftsA.of_accClass (hf : f = g) (hop : HasOpcode op i) (hi : ∀ s, exec i s = accClass f s) :
    ShiftsA op i g := by
  refine ⟨hop, fun s => ?_⟩
  rw [hi, accClass, impliedClass, State.mapCpu_eq, dummyRead_cpu, hf]

end Modifying

theorem cpuInx_eq : Cpu.inx = fun c => { c with x := (inc c.p c.x).1, p := (inc c.p c.x).2 } := by
  funext c
  rw [Cpu.inx, incByte_eq]

theorem cpuIny_eq : Cpu.iny = fun c => { c with y := (inc c.p c.y).1, p := (inc c.p c.y).2 } := by
  funext c
  rw [Cpu.iny, incByte_eq]

theorem cpuDex_eq : Cpu.dex = fun c => { c with x := (dec c.p c.x).1, p := (dec c.p c.x).2 } := by
  funext c
  rw [Cpu.dex, decByte_eq]

theorem cpuDey_eq : Cpu.dey = fun c => { c with y := (dec c.p c.y).1, p := (dec c.p c.y).2 } := by
  funext c
  rw [Cpu.dey, decByte_eq]

/-- Settles O28: each form is an accumulator form or of the RMW class, on its mode, with its shift or rotate. -/
theorem shiftsAndRotates : Obligations.ShiftsAndRotates :=
  ⟨.of_accClass aslByte_eq rfl fun _ => rfl,
    fun _ => .of_rmwClass aslByte_eq rfl fun _ => rfl, fun _ => .of_rmwClass aslByte_eq rfl fun _ => rfl,
    fun _ => .of_rmwClass aslByte_eq rfl fun _ => rfl, fun _ => .of_rmwClass aslByte_eq rfl fun _ => rfl,
    .of_accClass lsrByte_eq rfl fun _ => rfl,
    fun _ => .of_rmwClass lsrByte_eq rfl fun _ => rfl, fun _ => .of_rmwClass lsrByte_eq rfl fun _ => rfl,
    fun _ => .of_rmwClass lsrByte_eq rfl fun _ => rfl, fun _ => .of_rmwClass lsrByte_eq rfl fun _ => rfl,
    .of_accClass rolByte_eq rfl fun _ => rfl,
    fun _ => .of_rmwClass rolByte_eq rfl fun _ => rfl, fun _ => .of_rmwClass rolByte_eq rfl fun _ => rfl,
    fun _ => .of_rmwClass rolByte_eq rfl fun _ => rfl, fun _ => .of_rmwClass rolByte_eq rfl fun _ => rfl,
    .of_accClass rorByte_eq rfl fun _ => rfl,
    fun _ => .of_rmwClass rorByte_eq rfl fun _ => rfl, fun _ => .of_rmwClass rorByte_eq rfl fun _ => rfl,
    fun _ => .of_rmwClass rorByte_eq rfl fun _ => rfl, fun _ => .of_rmwClass rorByte_eq rfl fun _ => rfl⟩

/-- Settles O29: each form is of the RMW class, on its mode, or of the implied class, with its step by one. -/
theorem incrementsAndDecrements : Obligations.IncrementsAndDecrements :=
  ⟨fun _ => .of_rmwClass incByte_eq rfl fun _ => rfl, fun _ => .of_rmwClass incByte_eq rfl fun _ => rfl,
    fun _ => .of_rmwClass incByte_eq rfl fun _ => rfl, fun _ => .of_rmwClass incByte_eq rfl fun _ => rfl,
    fun _ => .of_rmwClass decByte_eq rfl fun _ => rfl, fun _ => .of_rmwClass decByte_eq rfl fun _ => rfl,
    fun _ => .of_rmwClass decByte_eq rfl fun _ => rfl, fun _ => .of_rmwClass decByte_eq rfl fun _ => rfl,
    .of_impliedClass cpuInx_eq rfl fun _ => rfl, .of_impliedClass cpuIny_eq rfl fun _ => rfl,
    .of_impliedClass cpuDex_eq rfl fun _ => rfl, .of_impliedClass cpuDey_eq rfl fun _ => rfl⟩

end Sys2Proof.Claims

/-! The control transfer family (43_control_transfer.md): branch targets and pages in numbers (R240), and the bytes the
stack holds in RAM (10_state.md R37, R38). -/

namespace Sys2Proof.Machine

open Sys2Proof.Claims (addr word s8)

theorem hiByte_eq_ofNat (w : Word) : hiByte w = BitVec.ofNat 8 (w.toNat / 256) := by
  have := w.isLt
  refine BitVec.eq_of_toNat_eq ?_
  rw [hiByte_toNat, BitVec.toNat_ofNat]
  omega

theorem loByte_eq_ofNat (w : Word) : loByte w = BitVec.ofNat 8 w.toNat := rfl

theorem hiByte_beq_iff (w w' : Word) : (hiByte w == hiByte w') = true ↔ w.toNat / 256 = w'.toNat / 256 := by
  rw [beq_iff_eq, ← BitVec.toNat_inj, hiByte_toNat, hiByte_toNat]

/-- The low byte of one word in the page of another, which a branch reads before its high byte is fixed (R240). -/
theorem mkWord_hiByte_loByte_eq_addr (w w' : Word) :
    mkWord (hiByte w) (loByte w') = addr (w.toNat / 256 * 256 + w'.toNat % 256) := by
  refine eq_addr ?_
  have := w.isLt
  rw [mkWord_toNat, hiByte_toNat, loByte_toNat]
  omega

theorem add_signExtendByte_eq (w : Word) (b : Byte) :
    w + signExtendByte b = BitVec.ofInt 16 (w.toNat + s8 b.toNat) := by
  rw [BitVec.ofInt_add, BitVec.ofInt_natCast, BitVec.ofNat_toNat, BitVec.setWidth_eq, ← signedByte_eq_s8]
  rfl

theorem word_hiByte_loByte (w : Word) : word (hiByte w) (loByte w) = w := by
  rw [← mkWord_eq_word, mkWord_hiByte_loByte]

theorem add_one_eq_addr (w : Word) : w + 1 = addr (w.toNat + 1) := eq_addr (BitVec.toNat_add w 1)

/-- The bits that the decode table tests in a stack address: A7 is the pointer's, A9 and A12 are bits of the page number. -/
theorem busAddr_stackAddr_getLsbD (b : Byte) {i : Nat} (hi : i < 13) :
    (busAddr (stackAddr b)).getLsbD i = if i < 8 then b.getLsbD i else (1 : Byte).getLsbD (i - 8) := by
  rw [busAddr, BitVec.getLsbD_setWidth, decide_eq_true hi, Bool.true_and, stackAddr, mkWord, BitVec.getLsbD_append]

/-- The upper half of page 1 is RAM (20_memory.md R61, 10_state.md R38). -/
theorem isRam_stackAddr {b : Byte} (h : 0x80 ≤ b.toNat) : isRam (stackAddr b) = true := by
  have h7 : b.getLsbD 7 = true := by rw [getLsbD_seven, decide_eq_true h]
  have h12 : (busAddr (stackAddr b)).getLsbD 12 = false := busAddr_stackAddr_getLsbD b (by decide)
  have h9 : (busAddr (stackAddr b)).getLsbD 9 = false := busAddr_stackAddr_getLsbD b (by decide)
  have h7' : (busAddr (stackAddr b)).getLsbD 7 = true := (busAddr_stackAddr_getLsbD b (by decide)).trans h7
  simp only [isRam, (decodeTableCoversEachAddressOnce _).2, h12, h7', h9]
  rfl

theorem ramCell_stackAddr (b : Byte) : ramCell (stackAddr b) = b.toNat % 128 := by
  have h1 : (1 : Byte).toNat = 1 := rfl
  rw [ramCell_eq, stackAddr, mkWord_toNat, h1]
  omega

/-- In the upper half of page 1 each stack address has a byte of RAM to itself. -/
theorem sameRamByte_stackAddr {b c : Byte} (hb : 0x80 ≤ b.toNat) (hc : 0x80 ≤ c.toNat) (hne : b ≠ c) :
    sameRamByte (stackAddr b) (stackAddr c) = false := by
  have hcell : ramCell (stackAddr b) ≠ ramCell (stackAddr c) := by
    rw [ramCell_stackAddr, ramCell_stackAddr]
    bv_omega
  rw [sameRamByte, beq_false_of_ne hcell, Bool.and_false]

/-- A pull from the upper half of page 1 returns what RAM holds, whatever else has changed. -/
theorem readCycle_stackAddr_fst {b : Byte} (hb : 0x80 ≤ b.toNat) {s t : State} (hram : t.ram = s.ram) :
    (readCycle (stackAddr b) t).1 = s.ramAt (stackAddr b) := by
  rw [readCycle_of_isRam (isRam_stackAddr hb), State.ramAt, hram, State.ramAt]

/-- The byte form of the flags loses none of them (10_state.md R34). -/
theorem unpack_pack (p : Flags) (b : Bool) : Flags.unpack (p.pack b) = p := by
  unfold Flags.unpack Flags.pack bitAt
  repeat rw [BitVec.getLsbD_append]
  simp

end Sys2Proof.Machine

/-! The control transfers as the runs of cycles of their tables, then one change of registers (R249 to R256). -/

namespace Sys2Proof.Machine

open Sys2Proof.Claims (addr word)

variable (s : State)

theorem byte_add_one_add_one (b : Byte) : b + 1 + 1 = b + 2 := BitVec.add_assoc b 1 1

theorem byte_add_two_add_one (b : Byte) : b + 2 + 1 = b + 3 := BitVec.add_assoc b 2 1

theorem byte_sub_one_sub_one (b : Byte) : b - 1 - 1 = b - 2 := by bv_omega

theorem byte_sub_two_sub_one (b : Byte) : b - 2 - 1 = b - 3 := by bv_omega

/-- Pushing PC, with its bytes in numbers and one change of S. -/
theorem pushPc_eq_writes :
    pushPc s = (writeCycle (stackAddr (s.cpu.s - 1)) (BitVec.ofNat 8 s.cpu.pc.toNat)
      (writeCycle (stackAddr s.cpu.s) (BitVec.ofNat 8 (s.cpu.pc.toNat / 256)) s)).mapCpu
        fun c => { c with s := c.s - 2 } := by
  simp only [pushPc_eq, hiByte_eq_ofNat, loByte_eq_ofNat, byte_sub_one_sub_one]

theorem jumpThroughVector_eq (v : Word) :
    jumpThroughVector v s =
      let lo := readCycle v s
      let hi := readCycle (v + 1) lo.2
      hi.2.mapCpu fun c => { c with pc := word hi.1 lo.1 } := by
  simp only [jumpThroughVector, State.setPc_eq_mapCpu, mkWord_eq_word]

theorem takeTrap_eq :
    takeTrap s =
      let s3 := writeCycle (stackAddr s.cpu.s) (BitVec.ofNat 8 (s.cpu.pc.toNat / 256)) s
      let s4 := writeCycle (stackAddr (s.cpu.s - 1)) (BitVec.ofNat 8 s.cpu.pc.toNat) s3
      let s5 := writeCycle (stackAddr (s.cpu.s - 2)) (s.cpu.p.pack true) s4
      let lo := readCycle 0xFFFE s5
      let hi := readCycle 0xFFFF lo.2
      hi.2.mapCpu fun c => { c with s := c.s - 3, p := { c.p with i := true }, pc := word hi.1 lo.1 } := by
  have hvector : (0xFFFE : Word) + 1 = 0xFFFF := rfl
  simp only [takeTrap, pushCycle_eq, pushPc_eq_writes, jumpThroughVector_eq, brkVector, hvector, State.mapCpu_mapCpu,
    State.mapCpu_cpu, writeCycle_mapCpu, writeCycle_cpu, readCycle_mapCpu, byte_sub_two_sub_one]

theorem returnFromTrap_eq :
    returnFromTrap s =
      let s3 := dummyRead (stackAddr s.cpu.s) (dummyRead s.cpu.pc s)
      let p := readCycle (stackAddr (s.cpu.s + 1)) s3
      let lo := readCycle (stackAddr (s.cpu.s + 2)) p.2
      let hi := readCycle (stackAddr (s.cpu.s + 3)) lo.2
      hi.2.mapCpu fun c => { c with s := c.s + 3, p := Flags.unpack p.1, pc := word hi.1 lo.1 } := by
  simp only [returnFromTrap, pullThenUp, stackReadCycle, prePullCycle_eq, State.setPc_eq_mapCpu, State.mapCpu_mapCpu,
    State.mapCpu_cpu, readCycle_mapCpu, readCycle_cpu, dummyRead_cpu, mkWord_eq_word,
    byte_add_one_add_one, byte_add_two_add_one]

theorem jsrPushes_eq :
    jsrPushes s = (writeCycle (stackAddr (s.cpu.s - 1)) (BitVec.ofNat 8 s.cpu.pc.toNat)
      (writeCycle (stackAddr s.cpu.s) (BitVec.ofNat 8 (s.cpu.pc.toNat / 256))
        (dummyRead (stackAddr s.cpu.s) s))).mapCpu fun c => { c with s := c.s - 2 } := by
  rw [jsrPushes, pushPc_eq_writes, dummyRead_cpu]

theorem jsrPushes_ram : (jsrPushes s).ram = (pushPc s).ram := by
  simp only [jsrPushes, pushPc_ram, dummyRead_cpu, dummyRead_ram]

theorem execJsr_eq (w : Word) :
    execJsr w s =
      let s3 := dummyRead (stackAddr s.cpu.s) s
      let s4 := writeCycle (stackAddr s.cpu.s) (BitVec.ofNat 8 (s.cpu.pc.toNat / 256)) s3
      let s5 := writeCycle (stackAddr (s.cpu.s - 1)) (BitVec.ofNat 8 s.cpu.pc.toNat) s4
      .next ((dummyRead s.cpu.pc s5).mapCpu fun c => { c with s := c.s - 2, pc := w }) := by
  rw [execJsr, State.setPc_eq_mapCpu, jsrPushes_cpu, jsrPushes_eq, dummyRead_mapCpu, State.mapCpu_mapCpu]

/-- The instruction whose opcode byte is $20 is JSR with the high byte that its last cycle reads (R250, log 16). -/
theorem fetchInstr_of_jsr {low : Byte} (h : (fetchBytes 2 s).1 = [0x20, low]) :
    fetchInstr s = (.jsr (mkWord (jsrHighByte (fetchBytes 2 s).2) low), (fetchBytes 2 s).2) := by
  simp only [fetchBytes, List.cons.injEq, and_true] at h
  obtain ⟨hop, hlow⟩ := h
  have hshape : shapeOf (fetchByte s).1 = .call .jsr := by rw [hop]; rfl
  simp only [fetchInstr, fetchBytes, hshape, hlow]

theorem execRts_eq :
    execRts s =
      let s3 := dummyRead (stackAddr s.cpu.s) (dummyRead s.cpu.pc s)
      let lo := readCycle (stackAddr (s.cpu.s + 1)) s3
      let hi := readCycle (stackAddr (s.cpu.s + 2)) lo.2
      .next ((dummyRead (word hi.1 lo.1) hi.2).mapCpu fun c =>
        { c with s := c.s + 2, pc := addr ((word hi.1 lo.1).toNat + 1) }) := by
  simp only [execRts, pullThenUp, stackReadCycle, prePullCycle_eq, State.setPc_eq_mapCpu, State.mapCpu_mapCpu,
    State.mapCpu_cpu, readCycle_mapCpu, readCycle_cpu, dummyRead_mapCpu, dummyRead_cpu, mkWord_eq_word,
    byte_add_one_add_one, add_one_eq_addr]

end Sys2Proof.Machine

/-! What the pushes leave in RAM for the pulls (R250, R251, R255, R256). -/

namespace Sys2Proof.Machine

variable {s : State}

/-- Where both bytes of a pushed PC lie in RAM, RAM holds them. -/
theorem pushPc_ramAt (hs : 0x81 ≤ s.cpu.s.toNat) (hwf : s.ram.wf = true) :
    (pushPc s).ramAt (stackAddr (s.cpu.s - 1)) = loByte s.cpu.pc
      ∧ (pushPc s).ramAt (stackAddr s.cpu.s) = hiByte s.cpu.pc := by
  have hhigh : 0x80 ≤ s.cpu.s.toNat := by omega
  have hlow : 0x80 ≤ (s.cpu.s - 1).toNat := by bv_omega
  have hne : s.cpu.s - 1 ≠ s.cpu.s := by bv_omega
  rw [State.ramAt, State.ramAt, pushPc_ram]
  constructor
  · exact ramAt_storeRam_self (isRam_stackAddr hlow) (storeRam_wf hwf _ _) _
  · rw [storeRam_read_of_ne (sameRamByte_stackAddr hlow hhigh hne) (isRam_stackAddr hhigh)]
    exact ramAt_storeRam_self (isRam_stackAddr hhigh) hwf _

/-- The trap's third push, below the pushed PC. -/
theorem takeTrap_ram :
    (takeTrap s).ram = storeRam (stackAddr (s.cpu.s - 2)) (s.cpu.p.pack true) (pushPc s).ram := by
  simp only [takeTrap, jumpThroughVector_ram, State.mapCpu_ram, pushCycle_ram, pushPc_cpu]

theorem takeTrap_s : (takeTrap s).cpu.s = s.cpu.s - 3 := by
  simp only [takeTrap, jumpThroughVector_cpu, State.mapCpu_cpu, pushCycle_cpu, pushPc_cpu, byte_sub_two_sub_one]

/-- Where all three bytes a trap pushes lie in RAM, RAM holds them. -/
theorem takeTrap_ramAt (hs : 0x82 ≤ s.cpu.s.toNat) (hwf : s.ram.wf = true) :
    (takeTrap s).ramAt (stackAddr (s.cpu.s - 2)) = s.cpu.p.pack true
      ∧ (takeTrap s).ramAt (stackAddr (s.cpu.s - 1)) = loByte s.cpu.pc
      ∧ (takeTrap s).ramAt (stackAddr s.cpu.s) = hiByte s.cpu.pc := by
  have hhigh : 0x80 ≤ s.cpu.s.toNat := by omega
  have hlow : 0x80 ≤ (s.cpu.s - 1).toNat := by bv_omega
  have hflags : 0x80 ≤ (s.cpu.s - 2).toNat := by bv_omega
  have hwf' : (pushPc s).ram.wf = true := by
    rw [pushPc_ram]
    exact storeRam_wf (storeRam_wf hwf _ _) _ _
  obtain ⟨hreadLow, hreadHigh⟩ := pushPc_ramAt (by omega) hwf
  simp only [State.ramAt] at hreadLow hreadHigh ⊢
  rw [takeTrap_ram]
  refine ⟨ramAt_storeRam_self (isRam_stackAddr hflags) hwf' _, ?_, ?_⟩
  · rw [storeRam_read_of_ne (sameRamByte_stackAddr hflags hlow (by bv_omega)) (isRam_stackAddr hlow)]
    exact hreadLow
  · rw [storeRam_read_of_ne (sameRamByte_stackAddr hflags hhigh (by bv_omega)) (isRam_stackAddr hhigh)]
    exact hreadHigh

/-- An RTS that finds S and RAM as a push of PC left them returns to the byte after it. -/
theorem execRts_of_pushPc {u : State} (hs : 0x81 ≤ s.cpu.s.toNat) (hwf : s.ram.wf = true)
    (hus : u.cpu.s = s.cpu.s - 2) (hram : u.ram = (pushPc s).ram) :
    ∃ v, execRts u = .next v ∧ v.cpu.pc = s.cpu.pc + 1 ∧ v.cpu.s = s.cpu.s ∧ v.ram = u.ram := by
  have hlowAt : u.cpu.s + 1 = s.cpu.s - 1 := by bv_omega
  have hhighAt : u.cpu.s + 2 = s.cpu.s := by bv_omega
  obtain ⟨hlow, hhigh⟩ := pushPc_ramAt hs hwf
  have hlo (t : State) (ht : t.ram = u.ram) : (readCycle (stackAddr (s.cpu.s - 1)) t).1 = loByte s.cpu.pc := by
    rw [readCycle_stackAddr_fst (by bv_omega) (ht.trans hram), hlow]
  have hhi (t : State) (ht : t.ram = u.ram) : (readCycle (stackAddr s.cpu.s) t).1 = hiByte s.cpu.pc := by
    rw [readCycle_stackAddr_fst (by omega) (ht.trans hram), hhigh]
  refine ⟨_, execRts_eq u, ?_, ?_, ?_⟩
  · simp only [State.mapCpu_cpu, hlowAt, hhighAt, hlo, hhi, readCycle_ram, dummyRead_ram, word_hiByte_loByte,
      add_one_eq_addr]
  · simp only [State.mapCpu_cpu, dummyRead_cpu, readCycle_cpu, hhighAt]
  · simp only [State.mapCpu_ram, dummyRead_ram, readCycle_ram]

/-- An RTI that finds S and RAM as a trap left them restores PC and the flags. -/
theorem returnFromTrap_of_takeTrap {u : State} (hs : 0x82 ≤ s.cpu.s.toNat) (hwf : s.ram.wf = true)
    (hus : u.cpu.s = (takeTrap s).cpu.s) (hram : u.ram = (takeTrap s).ram) :
    (returnFromTrap u).cpu.pc = s.cpu.pc ∧ (returnFromTrap u).cpu.p = s.cpu.p ∧ (returnFromTrap u).cpu.s = s.cpu.s
      ∧ (returnFromTrap u).ram = u.ram := by
  rw [takeTrap_s] at hus
  have hflagsAt : u.cpu.s + 1 = s.cpu.s - 2 := by bv_omega
  have hlowAt : u.cpu.s + 2 = s.cpu.s - 1 := by bv_omega
  have hhighAt : u.cpu.s + 3 = s.cpu.s := by bv_omega
  obtain ⟨hflags, hlow, hhigh⟩ := takeTrap_ramAt hs hwf
  have hp (t : State) (ht : t.ram = u.ram) : (readCycle (stackAddr (s.cpu.s - 2)) t).1 = s.cpu.p.pack true := by
    rw [readCycle_stackAddr_fst (by bv_omega) (ht.trans hram), hflags]
  have hlo (t : State) (ht : t.ram = u.ram) : (readCycle (stackAddr (s.cpu.s - 1)) t).1 = loByte s.cpu.pc := by
    rw [readCycle_stackAddr_fst (by bv_omega) (ht.trans hram), hlow]
  have hhi (t : State) (ht : t.ram = u.ram) : (readCycle (stackAddr s.cpu.s) t).1 = hiByte s.cpu.pc := by
    rw [readCycle_stackAddr_fst (by omega) (ht.trans hram), hhigh]
  rw [returnFromTrap_eq]
  refine ⟨?_, ?_, ?_, ?_⟩
  · simp only [State.mapCpu_cpu, hlowAt, hhighAt, hlo, hhi, readCycle_ram, dummyRead_ram, word_hiByte_loByte]
  · simp only [State.mapCpu_cpu, hflagsAt, hp, dummyRead_ram, unpack_pack]
  · simp only [State.mapCpu_cpu, readCycle_cpu, dummyRead_cpu, hhighAt]
  · simp only [State.mapCpu_ram, readCycle_ram, dummyRead_ram]

end Sys2Proof.Machine

namespace Sys2Proof.Claims

open Sys2Proof.Machine

/-- A branch of R240 on the condition `taken`. -/
theorem BranchesOn.of_branchIf {op : Byte} {i : Byte → Instr} {taken : Flags → Bool} (hop : ∀ b, HasOpcode op (i b))
    (hi : ∀ b s, exec (i b) s = branchIf (taken s.cpu.p) b s) : BranchesOn op i taken := by
  intro b s
  refine ⟨hop b, ?_⟩
  dsimp only
  rw [hi, branchIf, add_signExtendByte_eq]
  dsimp only
  generalize (BitVec.ofInt 16 (s.cpu.pc.toNat + s8 b.toNat) : Word) = target
  refine ⟨fun h => ?_, fun h hpage => ?_, fun h hpage => ?_⟩
  · rw [h]
    rfl
  · rw [h, if_pos rfl, if_pos ((hiByte_beq_iff _ _).2 hpage), State.setPc_eq_mapCpu, State.mapCpu_eq, dummyRead_cpu]
  · rw [h, if_pos rfl, if_neg (mt (hiByte_beq_iff _ _).1 hpage), State.setPc_eq_mapCpu, State.mapCpu_eq, dummyRead_cpu,
      dummyRead_cpu, mkWord_hiByte_loByte_eq_addr]

/-- Settles O30: each branch is the branch of R240 on its flag. -/
theorem branchesFollowTheirFlag : Obligations.BranchesFollowTheirFlag :=
  ⟨.of_branchIf (fun _ => rfl) fun _ _ => rfl, .of_branchIf (fun _ => rfl) fun _ _ => rfl,
    .of_branchIf (fun _ => rfl) fun _ _ => rfl, .of_branchIf (fun _ => rfl) fun _ _ => rfl,
    .of_branchIf (fun _ => rfl) fun _ _ => rfl, .of_branchIf (fun _ => rfl) fun _ _ => rfl,
    .of_branchIf (fun _ => rfl) fun _ _ => rfl, .of_branchIf (fun _ => rfl) fun _ _ => rfl⟩

/-- Settles O31: the pointer's second address is that of an index 1 whose carry into the page is dropped. -/
theorem jumpsSetPc : Obligations.JumpsSetPc := by
  refine ⟨fun w => ⟨rfl, fun s => rfl⟩, fun w => ⟨rfl, fun s => ?_⟩⟩
  have h1 : (1 : Byte).toNat = 1 := rfl
  change execJmpInd w s = _
  simp only [execJmpInd, unfixed_eq_addr, h1, State.setPc_eq_mapCpu, State.mapCpu_eq, readCycle_cpu, mkWord_eq_word]

/-- Settles O32, from the cycles of JSR and of RTS. -/
theorem callsPushAndReturnsPull : Obligations.CallsPushAndReturnsPull := by
  refine ⟨fun w s => ⟨rfl, ?_⟩, fun low before h => ?_, rfl, fun s => ?_⟩
  · refine (execJsr_eq s w).trans ?_
    simp only [State.mapCpu_eq, dummyRead_cpu, writeCycle_cpu]
  · dsimp only
    rw [fetchInstr_of_jsr before h, jsrHighByte, jsrPushes_cpu, jsrPushes_eq, readCycle_mapCpu, mkWord_eq_word]
  · refine (execRts_eq s).trans ?_
    simp only [State.mapCpu_eq, dummyRead_cpu, readCycle_cpu]

/-- Settles O33: BRK is the trap entry. -/
theorem brkEntersTheTrap : Obligations.BrkEntersTheTrap := by
  refine fun pad s => ⟨rfl, ?_⟩
  refine (congrArg Host.Outcome.next (takeTrap_eq s)).trans ?_
  simp only [State.mapCpu_eq, readCycle_cpu, writeCycle_cpu]

/-- Settles O34: RTI is the trap return. -/
theorem rtiRestoresFlagsAndPc : Obligations.RtiRestoresFlagsAndPc := by
  refine ⟨rfl, fun s => ?_⟩
  refine (congrArg Host.Outcome.next (returnFromTrap_eq s)).trans ?_
  simp only [State.mapCpu_eq, readCycle_cpu, dummyRead_cpu]

/-- Settles O38: JSR leaves S and RAM as its push of PC does, and RTI pulls what the trap entry pushed. -/
theorem returnsUndoCallsAndTraps : Obligations.ReturnsUndoCallsAndTraps := by
  refine ⟨fun w s t u hs hwf hjsr hus hram => ?_, fun pad s t u hs hwf hbrk hus hram => ?_⟩
  · obtain rfl : _ = t := Host.Outcome.next.inj hjsr
    have hts : u.cpu.s = s.cpu.s - 2 := by simpa only [State.setPc_cpu, dummyRead_cpu, jsrPushes_cpu] using hus
    have htram : u.ram = (pushPc s).ram := by simpa only [State.setPc_ram, dummyRead_ram, jsrPushes_ram] using hram
    rw [← hram]
    exact execRts_of_pushPc hs hwf hts htram
  · obtain rfl : takeTrap s = t := Host.Outcome.next.inj hbrk
    rw [← hram]
    exact ⟨_, rfl, returnFromTrap_of_takeTrap hs hwf hus hram⟩

end Sys2Proof.Claims

/-! The stack and flag family (44_stack_flags_system.md): the byte PHP pushes (10_state.md R34), and the pushes and pulls as
the runs of cycles of their tables (R270 to R273). -/

namespace Sys2Proof.Machine

/-- A byte with bit 5 set is the byte form of its flags and its bit 4 (10_state.md R34). -/
theorem pack_unpack {v : Byte} (h5 : v.getLsbD 5 = true) : (Flags.unpack v).pack (v.getLsbD 4) = v := by
  refine BitVec.eq_of_getLsbD_eq fun i hi => ?_
  unfold Flags.unpack Flags.pack bitAt
  simp only [BitVec.getLsbD_append]
  obtain rfl | hne := eq_or_ne i 5
  · exact h5.symm
  · interval_cases i <;> simp at hne ⊢

theorem pushCycle_dummyRead_eq (v : Byte) (s : State) :
    pushCycle v (dummyRead s.cpu.pc s) =
      { writeCycle (stackAddr s.cpu.s) v (dummyRead s.cpu.pc s) with cpu := { s.cpu with s := s.cpu.s - 1 } } := by
  simp only [pushCycle_eq, State.mapCpu_eq, writeCycle_cpu, dummyRead_cpu]

theorem pullByte_eq (s : State) :
    pullByte s =
      let v := readCycle (stackAddr (s.cpu.s + 1)) (dummyRead (stackAddr s.cpu.s) (dummyRead s.cpu.pc s))
      (v.1, v.2.mapCpu fun c => { c with s := c.s + 1 }) := by
  simp only [pullByte, stackReadCycle, prePullCycle_eq, readCycle_mapCpu, State.mapCpu_cpu, dummyRead_cpu]

end Sys2Proof.Machine

namespace Sys2Proof.Claims

open Sys2Proof.Machine

/-- Settles O35: a byte with bits 5 and 4 set is the byte form of the flags its other bits give. -/
theorem pushesStoreBelowTheStack : Obligations.PushesStoreBelowTheStack := by
  refine ⟨rfl, rfl, fun s => congrArg Host.Outcome.next (pushCycle_dummyRead_eq s.cpu.a s),
    fun s b hn hv h5 h4 hd hi hz hc => ?_⟩
  have hunpack : Flags.unpack b = s.cpu.p := by simp only [Flags.unpack, bitAt, hn, hv, hd, hi, hz, hc]
  have hpack : s.cpu.p.pack true = b := by rw [← hunpack, ← h4, pack_unpack h5]
  rw [← hpack]
  exact congrArg Host.Outcome.next (pushCycle_dummyRead_eq (s.cpu.p.pack true) s)

/-- Settles O36: both read the byte of `pullByte_eq`, and differ in the registers they change. -/
theorem pullsReadAboveTheStack : Obligations.PullsReadAboveTheStack := by
  refine ⟨rfl, rfl, fun s => ⟨?_, ?_⟩⟩
  · change execPla s = _
    simp only [execPla, pullByte_eq, State.mapCpu_eq, readCycle_cpu, dummyRead_cpu, flagsNz_eq]
  · change execPlp s = _
    simp only [execPlp, pullByte_eq, State.mapCpu_eq, readCycle_cpu, dummyRead_cpu, Flags.unpack, bitAt]

/-- Settles O37: each is of the implied class, and its operation is the change of one flag or none. -/
theorem flagInstructionsAndNop : Obligations.FlagInstructionsAndNop :=
  ⟨.of_impliedClass rfl rfl fun _ => rfl, .of_impliedClass rfl rfl fun _ => rfl,
    .of_impliedClass rfl rfl fun _ => rfl, .of_impliedClass rfl rfl fun _ => rfl,
    .of_impliedClass rfl rfl fun _ => rfl, .of_impliedClass rfl rfl fun _ => rfl,
    .of_impliedClass rfl rfl fun _ => rfl, .of_impliedClass rfl rfl fun _ => rfl⟩

end Sys2Proof.Claims

/-! The TIA at the bus (60_exceptions.md R341, R343, R410): what a write does at its access, and what every cycle keeps of the
TIA. -/

namespace Sys2Proof.Machine

theorem busWrite_of_isTia {a : Word} (h : isTia a = true) (v : Byte) (s : State) :
    busWrite a v s = { s with tia := s.tia.write s.params (busOffset 6 a) v } := by
  have hd : deviceAt (busAddr a) = .tia := by simpa [isTia] using h
  simp only [busWrite, hd]

theorem busDeferred_of_isTia {a : Word} (h : isTia a = true) (s : State) :
    busDeferred a s = { s with tia := s.tia.deferred s.params (busOffset 6 a) } := by
  have hd : deviceAt (busAddr a) = .tia := by simpa [isTia] using h
  simp only [busDeferred, hd]

/-- The register an address selects (R341). -/
theorem tiaRegAt_busOffset {a : Word} {k : Nat} (h : a.toNat % 64 = k) :
    tiaRegAt (busOffset 6 a) = tiaWriteMap[k]? := by
  rw [tiaRegAt, busOffset_toNat]
  exact congrArg (tiaWriteMap[·]?) h

theorem Tia.write_of_reg {o : BitVec 6} {reg : TiaReg} (h : tiaRegAt o = some reg) (p : Params) (t : Tia) (v : Byte) :
    t.write p o v = t.writeReg p reg v := by
  simp only [Tia.write, h]

theorem Tia.deferred_of_reg {o : BitVec 6} {reg : TiaReg} (h : tiaRegAt o = some reg) (p : Params) (t : Tia) :
    t.deferred p o = t.deferredReg p reg := by
  simp only [Tia.deferred, h]

/-- A write cycle to the TIA: the write at the access, the three ticks, the deferred effect (R410). -/
theorem writeCycle_tia_of_isTia {a : Word} (h : isTia a = true) (v : Byte) (s : State) :
    (writeCycle a v s).tia =
      ((s.tia.write s.params (busOffset 6 a) v).tick3 s.params).deferred s.params (busOffset 6 a) := by
  simp only [writeCycle, busDeferred_of_isTia h, busWrite_of_isTia h, ticks_tia, ticks_params]

/-- The whole effect of a register's write at the access (R343). -/
theorem Tia.writeReg_eq (p : Params) (t : Tia) (reg : TiaReg) (v : Byte) :
    let starts := reg = .vsync ∧ p.vsyncResetsLine = true ∧ t.regs.vsync.getLsbD 1 = false ∧ v.getLsbD 1 = true
    let unlatches := reg = .vblank ∧ v.getLsbD 6 = false
    t.writeReg p reg v = { t with
      regs := t.regs.write p reg (v &&& reg.mask)
      waiting := t.waiting || decide (reg = .wsync)
      motion :=
        if reg = .hmove then { active := true, t := 0, ext := decide (t.hcount < 68) || t.motion.ext } else t.motion
      cx := if reg = .cxclr then noCollisions else t.cx
      latch4 := if unlatches then true else t.latch4
      latch5 := if unlatches then true else t.latch5
      vcount := if starts then 0 else t.vcount
      raster := if starts then [] else t.raster
      frames := if starts then t.raster :: t.frames else t.frames } := by
  have hvsync : t.vsyncStarts p (v &&& TiaReg.vsync.mask) = true ↔
      p.vsyncResetsLine = true ∧ t.regs.vsync.getLsbD 1 = false ∧ v.getLsbD 1 = true := by
    simp [Tia.vsyncStarts, bitAt, TiaReg.mask, and_assoc]
  have hvblank : bitAt (v &&& TiaReg.vblank.mask) 6 = v.getLsbD 6 := by simp [bitAt, TiaReg.mask]
  cases reg with
  | vsync =>
    simp only [Tia.writeReg, hvsync]
    split <;> simp_all [Tia.startFrame]
  | vblank =>
    simp only [Tia.writeReg, hvblank]
    cases v.getLsbD 6 <;> simp
  | wsync => simp [Tia.writeReg]
  | hmove => simp [Tia.writeReg]
  | cxclr => simp [Tia.writeReg]
  | _ => simp [Tia.writeReg]

/-- A write at an offset is that of the register there, or none. -/
theorem Tia.write_cases (p : Params) (t : Tia) (o : BitVec 6) (v : Byte) :
    t.write p o v = t ∨ ∃ reg, tiaRegAt o = some reg ∧ t.write p o v = t.writeReg p reg v := by
  unfold Tia.write
  cases tiaRegAt o with
  | none => exact .inl rfl
  | some reg => exact .inr ⟨reg, rfl, rfl⟩

/-- A deferred effect ends the line or moves an object, to a position in range (R371, R384). -/
theorem Tia.deferred_ends_or_moves (p : Params) (t : Tia) (o : BitVec 6) :
    t.deferred p o = t.endOfLine p
      ∨ ∃ pos, (PositionsInRange t.pos → PositionsInRange pos) ∧ t.deferred p o = { t with pos := pos } := by
  obtain h | h | ⟨n, hn, h | h | h | h | h⟩ := t.deferred_cases p o
  · exact .inr ⟨_, id, h⟩
  · exact .inl h
  all_goals
    refine .inr ⟨_, fun hpos => ?_, h⟩
    obtain ⟨h0, h1, h2, h3, h4⟩ := hpos
  · exact ⟨hn, h1, h2, h3, h4⟩
  · exact ⟨h0, hn, h2, h3, h4⟩
  · exact ⟨h0, h1, hn, h3, h4⟩
  · exact ⟨h0, h1, h2, hn, h4⟩
  · exact ⟨h0, h1, h2, h3, hn⟩

/-- A property of the TIA that ticks, writes and deferred effects keep is kept by every cycle. -/
theorem KeptByCycles.of_tia {W : Word → Prop} {P : Tia → Prop} (htick : ∀ p t, P t → P (t.tick3 p))
    (hwrite : ∀ a v p t, W a → isTia a = true → P t → P (t.write p (busOffset 6 a) v))
    (hend : ∀ p t, P t → P (t.endOfLine p))
    (hmove : ∀ (t : Tia) (pos : Positions), (PositionsInRange t.pos → PositionsInRange pos) → P t →
      P { t with pos := pos }) :
    KeptByCycles W (fun s => P s.tia) where
  cpu _ _ h := h
  ticks u h := htick u.params u.tia h
  read a u h := by
    rw [busRead_tia]
    exact h
  write a v u ha h := by
    by_cases htia : isTia a = true
    · rw [writeCycle_tia_of_isTia htia]
      have h' := htick u.params _ (hwrite a v u.params u.tia ha htia h)
      obtain hd | ⟨pos, hpos, hd⟩ := Tia.deferred_ends_or_moves u.params _ (busOffset 6 a) <;> rw [hd]
      · exact hend _ _ h'
      · exact hmove _ pos hpos h'
    · rw [writeCycle_tia_of_miss (by simpa using htia)]
      exact htick u.params u.tia h

theorem KeptByCycles.and {W : Word → Prop} {P Q : State → Prop} (hp : KeptByCycles W P) (hq : KeptByCycles W Q) :
    KeptByCycles W (fun s => P s ∧ Q s) where
  cpu s c h := ⟨hp.cpu s c h.1, hq.cpu s c h.2⟩
  ticks s h := ⟨hp.ticks s h.1, hq.ticks s h.2⟩
  read a s h := ⟨hp.read a s h.1, hq.read a s h.2⟩
  write a v s ha h := ⟨hp.write a v s ha h.1, hq.write a v s ha h.2⟩

/-- A property of the TIA that every cycle, an input sample and the reset keep is kept by every step. -/
theorem KeptByCycles.step_of_tia {P : Tia → Prop} (K : KeptByCycles (fun _ => True) (fun s => P s.tia))
    (hsample : ∀ i t, P t → P (t.sampleButtons i)) (hreset : ∀ t, P t → P t.hostReset) {s : State} (h : P s.tia) :
    NextHas (fun t => P t.tia) (Machine.step s) :=
  K.step (fun _ => trivial) (fun i s h => hsample i s.tia h) (fun s h => hreset s.tia h) (fun _ _ _ h => h)
    (fun _ _ h => h) h

/-! The beam (60_exceptions.md R345, R352, R356). -/

theorem Tia.write_beamInRange {t : Tia} (h : BeamInRange t) (p : Params) (o : BitVec 6) (v : Byte) :
    BeamInRange (t.write p o v) := by
  obtain ⟨h1, h2, h3⟩ := h
  unfold BeamInRange
  rw [Tia.write_hcount]
  obtain hv | hv := t.write_vcount p o v <;> rw [hv]
  · exact ⟨h1, h2, h3⟩
  · exact ⟨h1, h2, by decide⟩

theorem Tia.endOfLine_beamInRange (p : Params) (t : Tia) : BeamInRange (t.endOfLine p) :=
  ⟨by simp, by simp, Nat.mod_lt _ (by decide)⟩

theorem Tia.hostReset_beamInRange (t : Tia) : BeamInRange t.hostReset :=
  ⟨by simp [Tia.hostReset], rfl, by simp [Tia.hostReset]⟩

/-- A sample moves no more than the button latches (R387). -/
theorem Tia.sampleButtons_eq (i : Inputs) (t : Tia) :
    t.sampleButtons i = { t with
      latch4 := if bitAt t.regs.vblank 6 then t.latch4 && i.fire0 else true
      latch5 := if bitAt t.regs.vblank 6 then t.latch5 && i.fire1 else true } := by
  unfold Tia.sampleButtons
  split <;> rfl

theorem beam_keptByCycles : KeptByCycles (fun _ => True) (fun s => BeamInRange s.tia) :=
  .of_tia (fun p _ h => Tia.tick3_beamInRange h p) (fun _ v p _ _ _ h => Tia.write_beamInRange h p _ v)
    (fun p t _ => t.endOfLine_beamInRange p) (fun _ _ _ h => h)

theorem Tia.sampleButtons_beamInRange (i : Inputs) {t : Tia} (h : BeamInRange t) : BeamInRange (t.sampleButtons i) := by
  rw [Tia.sampleButtons_eq]
  exact h

/-- Settles O45: every cycle keeps the beam in range, a sample does not move it and a reset puts it at the frame's start. -/
theorem stepsKeepTheBeamInRange : Obligations.StepsKeepTheBeamInRange := by
  intro s t h hstep
  exact beam_keptByCycles.step_of_tia (fun i _ => Tia.sampleButtons_beamInRange i) (fun t _ => t.hostReset_beamInRange)
    h t hstep

/-! The rasters handed off (60_exceptions.md R396). -/

theorem Tia.tick_frames_suffix (p : Params) (t : Tia) : t.frames <:+ (t.tick p).frames := by
  rw [Tia.tick_frames]
  split
  · exact List.suffix_cons _ _
  · exact List.suffix_rfl

theorem Tia.write_frames_suffix (p : Params) (t : Tia) (o : BitVec 6) (v : Byte) :
    t.frames <:+ (t.write p o v).frames := by
  obtain ⟨-, h⟩ | ⟨-, h⟩ := t.write_frames p o v
  · rw [h]
  · rw [h]
    exact List.suffix_cons _ _

theorem Tia.endOfLine_frames (p : Params) (t : Tia) :
    (t.endOfLine p).frames = if (t.vcount + 1) % 262 = 0 then t.committed p :: t.frames else t.frames := rfl

theorem Tia.endOfLine_frames_suffix (p : Params) (t : Tia) : t.frames <:+ (t.endOfLine p).frames := by
  rw [Tia.endOfLine_frames]
  split
  · exact List.suffix_cons _ _
  · exact List.suffix_rfl

theorem frames_keptByCycles (l : List Raster) : KeptByCycles (fun _ => True) (fun s => l <:+ s.tia.frames) :=
  .of_tia (P := fun t => l <:+ t.frames)
    (fun p _ => Tia.tick3_induct (P := fun t => l <:+ t.frames) fun t h => h.trans (t.tick_frames_suffix p))
    (fun a v p t _ _ h => h.trans (t.write_frames_suffix p (busOffset 6 a) v))
    (fun p t h => h.trans (t.endOfLine_frames_suffix p)) (fun _ _ _ h => h)

/-- Settles O47: the rasters handed off before a step stand at the end of the list after it. -/
theorem handedOffFramesNeverChange : Obligations.HandedOffFramesNeverChange := by
  intro s t hstep
  have hsample (i : Inputs) (u : Tia) (h : s.tia.frames <:+ u.frames) : s.tia.frames <:+ (u.sampleButtons i).frames := by
    rw [Tia.sampleButtons_eq]
    exact h
  obtain ⟨new, hnew⟩ := (frames_keptByCycles s.tia.frames).step_of_tia hsample (fun _ h => h) List.suffix_rfl t hstep
  exact ⟨new, hnew.symm⟩

end Sys2Proof.Machine

/-! The invariant of the whole machine (60_exceptions.md R322, R340, R370, R383, R387, R395, 20_memory.md R64): its parts, and
that ticks, writes, deferred effects, samples and resets keep them. -/

namespace Sys2Proof.Machine

/-! Colours and rows: bit 0 of a pixel is 0 because the colour registers are masked (R383). -/

/-- Every register and slot a pixel can take its colour from (60_exceptions.md R367, R382). -/
def TiaRegs.colourSlots (r : TiaRegs) : List Byte :=
  [r.colup0, r.colup1, r.colupf, r.colubk, r.colup0Old, r.colup1Old, r.colupfOld]

section ColourSlots

variable {r : TiaRegs}

theorem TiaRegs.ite_mem_colourSlots {b c : Byte} (hb : b ∈ r.colourSlots) (hc : c ∈ r.colourSlots) (q : Prop)
    [Decidable q] : (if q then b else c) ∈ r.colourSlots := by
  split
  · exact hb
  · exact hc

theorem TiaRegs.colour_mem (p : Params) (a : Active) (x : Nat) : r.colour p a x ∈ r.colourSlots := by
  have hc0 : r.colup0 ∈ r.colourSlots := by simp [colourSlots]
  have hc1 : r.colup1 ∈ r.colourSlots := by simp [colourSlots]
  have hcf : r.colupf ∈ r.colourSlots := by simp [colourSlots]
  have hbk : r.colubk ∈ r.colourSlots := by simp [colourSlots]
  have hp0 : r.player0Colour p ∈ r.colourSlots := ite_mem_colourSlots (by simp [colourSlots]) hc0 _
  have hp1 : r.player1Colour p ∈ r.colourSlots := ite_mem_colourSlots (by simp [colourSlots]) hc1 _
  have hball : r.ballColour p ∈ r.colourSlots := ite_mem_colourSlots (by simp [colourSlots]) hcf _
  have hfield : r.pfBlColour p a x ∈ r.colourSlots :=
    ite_mem_colourSlots (ite_mem_colourSlots (ite_mem_colourSlots hc0 hc1 _) hcf _) hball _
  have hplayer {other : Byte} (h : other ∈ r.colourSlots) : r.playerColour p a other ∈ r.colourSlots := by
    unfold playerColour
    cases p.pmPriority with
    | pair =>
      exact ite_mem_colourSlots hp0 (ite_mem_colourSlots hc0 (ite_mem_colourSlots hp1 (ite_mem_colourSlots hc1 h _) _) _) _
    | playersFirst =>
      exact ite_mem_colourSlots hp0 (ite_mem_colourSlots hp1 (ite_mem_colourSlots hc0 (ite_mem_colourSlots hc1 h _) _) _) _
  unfold colour
  exact ite_mem_colourSlots (ite_mem_colourSlots hfield (hplayer hbk) _)
    (hplayer (ite_mem_colourSlots hfield hbk _)) _

end ColourSlots

theorem bitAt_zero_of_masked {b : Byte} (h : b &&& 1 = 0) : bitAt b 0 = false := by
  simpa [bitAt] using congrArg (fun v : Byte => v.getLsbD 0) h

theorem RegsMasked.colourSlots {r : TiaRegs} (h : RegsMasked r) : ∀ c ∈ r.colourSlots, bitAt c 0 = false := by
  obtain ⟨hreg, -, h0, h1, hf⟩ := h
  simp only [TiaRegs.colourSlots, List.forall_mem_cons]
  exact ⟨bitAt_zero_of_masked (hreg .colup0), bitAt_zero_of_masked (hreg .colup1), bitAt_zero_of_masked (hreg .colupf),
    bitAt_zero_of_masked (hreg .colubk), bitAt_zero_of_masked h0, bitAt_zero_of_masked h1, bitAt_zero_of_masked hf,
    List.forall_mem_nil _⟩

theorem Tia.pixel_bit0 {t : Tia} (h : RegsMasked t.regs) (p : Params) (a : Active) : bitAt (t.pixel p a) 0 = false := by
  unfold Tia.pixel
  split
  · exact h.colourSlots _ (TiaRegs.colour_mem p a _)
  · rfl

theorem rowFormed_nil : RowFormed [] := ⟨Memory.wf_nil, List.forall_mem_nil _⟩

theorem rasterFormed_nil : RasterFormed [] := ⟨rfl, List.forall_mem_nil _⟩

theorem RowFormed.write {m : Memory} (h : RowFormed m) {x : Nat} {v : Byte} (hx : x < 160) (hv : bitAt v 0 = false) :
    RowFormed (m.write x v) := by
  obtain ⟨hwf, hcells⟩ := h
  refine ⟨Memory.wf_write x v hwf, fun c hc => ?_⟩
  obtain hc | ⟨rfl, -⟩ := mem_cellsWrite hc
  · exact hcells c hc
  · exact ⟨hx, hv⟩

theorem RasterFormed.commit {m : Raster} (h : RasterFormed m) {r : Nat} {line : Memory} (hr : r < 192)
    (hline : RowFormed line) : RasterFormed (m.commit r line) := by
  obtain ⟨hwf, hcells⟩ := h
  refine ⟨cellsWf_write r line hwf, fun c hc => ?_⟩
  obtain hc | ⟨rfl, -⟩ := mem_cellsWrite hc
  · exact hcells c hc
  · exact ⟨hr, hline⟩

/-- A committed row is one of the 192 visible ones (R353). -/
theorem Tia.committed_formed {t : Tia} (hline : RowFormed t.line) (hraster : RasterFormed t.raster) (p : Params) :
    RasterFormed (t.committed p) := by
  unfold Tia.committed
  split
  · next hv =>
    have hv : p.visibleFirstLine.val ≤ t.vcount ∧ t.vcount < p.visibleFirstLine.val + 192 := by
      simpa [lineVisible] using hv
    exact hraster.commit (by omega) hline
  · exact hraster

/-! The registers under their masks (R341). -/

theorem masked_write (v m : Byte) : v &&& m &&& ~~~m = 0 := by
  rw [BitVec.and_assoc, BitVec.and_not_self]
  exact BitVec.and_zero

/-- A write leaves an old slot as it is or copies the slot it delays (R368). -/
theorem TiaRegs.write_old_cases (p : Params) (r : TiaRegs) (reg : TiaReg) (w : Byte) :
    ((r.write p reg w).enablOld = r.enablOld ∨ (r.write p reg w).enablOld = r.enablNew)
      ∧ ((r.write p reg w).colup0Old = r.colup0Old ∨ (r.write p reg w).colup0Old = r.colup0)
      ∧ ((r.write p reg w).colup1Old = r.colup1Old ∨ (r.write p reg w).colup1Old = r.colup1)
      ∧ ((r.write p reg w).colupfOld = r.colupfOld ∨ (r.write p reg w).colupfOld = r.colupf) := by
  have copies (own : Bool) (new old : Byte) :
      ((if own then new else old) = old ∨ (if own then new else old) = new)
        ∧ ((if own then old else new) = old ∨ (if own then old else new) = new) := by
    cases own <;> simp
  cases reg with
  | colup0 => exact ⟨.inl rfl, (copies _ _ _).1, .inl rfl, .inl rfl⟩
  | colup1 => exact ⟨.inl rfl, .inl rfl, (copies _ _ _).1, .inl rfl⟩
  | colupf => exact ⟨.inl rfl, .inl rfl, .inl rfl, (copies _ _ _).1⟩
  | enabl => exact ⟨(copies _ _ _).1, .inl rfl, .inl rfl, .inl rfl⟩
  | grp1 => exact ⟨(copies _ _ _).2, .inl rfl, .inl rfl, .inl rfl⟩
  | _ => exact ⟨.inl rfl, .inl rfl, .inl rfl, .inl rfl⟩

theorem RegsMasked.write {r : TiaRegs} (h : RegsMasked r) (p : Params) (reg : TiaReg) (v : Byte) :
    RegsMasked (r.write p reg (v &&& reg.mask)) := by
  obtain ⟨hreg, he, h0, h1, hf⟩ := h
  obtain ⟨hce, hc0, hc1, hcf⟩ := r.write_old_cases p reg (v &&& reg.mask)
  refine ⟨fun reg' => ?_, ?_, ?_, ?_, ?_⟩
  · by_cases heq : reg' = reg
    · subst heq
      rw [TiaRegs.stored_write_self]
      split
      · exact BitVec.zero_and
      · exact masked_write v _
    · by_cases hclr : reg = .hmclr ∧ reg' ∈ [TiaReg.hmp0, .hmp1, .hmm0, .hmm1, .hmbl]
      · obtain ⟨rfl, hmem⟩ := hclr
        rw [TiaRegs.stored_write_hmclr p r _ reg' hmem]
        exact BitVec.zero_and
      · rw [TiaRegs.stored_write_of_ne heq fun hr hmem => hclr ⟨hr, hmem⟩]
        exact hreg reg'
  · obtain hc | hc := hce <;> rw [hc]
    · exact he
    · exact hreg .enabl
  · obtain hc | hc := hc0 <;> rw [hc]
    · exact h0
    · exact hreg .colup0
  · obtain hc | hc := hc1 <;> rw [hc]
    · exact h1
    · exact hreg .colup1
  · obtain hc | hc := hcf <;> rw [hc]
    · exact hf
    · exact hreg .colupf

/-! The counters (R370). -/

theorem stepPosition_lt {c : Nat} (h : c < 160) (clocked : Bool) : stepPosition clocked c < 160 := by
  unfold stepPosition
  split
  · exact Nat.mod_lt _ (by decide)
  · exact h

theorem lockMissile_lt {missile : Nat} (h : missile < 160) (p : Params) (resmp nusiz : Byte) (player : Nat) :
    lockMissile p resmp nusiz player missile < 160 := by
  unfold lockMissile
  split
  · exact Nat.mod_lt _ (by decide)
  · exact h

theorem Positions.tick_inRange {pos : Positions} (h : PositionsInRange pos) (p : Params) (r : TiaRegs) (m : Motion)
    (clk : Bool) : PositionsInRange (pos.tick p r m clk) := by
  obtain ⟨h0, h1, h2, h3, h4⟩ := h
  exact ⟨stepPosition_lt h0 _, stepPosition_lt h1 _, lockMissile_lt (stepPosition_lt h2 _) ..,
    lockMissile_lt (stepPosition_lt h3 _) .., stepPosition_lt h4 _⟩

/-! The button latches (R387). -/

theorem Tia.writeReg_latchesHeld {t : Tia} (h : LatchesHeld t) (p : Params) (reg : TiaReg) (v : Byte) :
    LatchesHeld (t.writeReg p reg v) := by
  rw [Tia.writeReg_eq]
  intro h6
  by_cases hreg : reg = .vblank
  · subst hreg
    have hv : v.getLsbD 6 = false := by simpa [TiaRegs.write, TiaReg.mask, bitAt] using h6
    exact ⟨if_pos ⟨rfl, hv⟩, if_pos ⟨rfl, hv⟩⟩
  · have hvblank : (t.regs.write p reg (v &&& reg.mask)).vblank = t.regs.vblank :=
      TiaRegs.stored_write_of_ne (reg' := .vblank) (Ne.symm hreg) (fun _ => by decide) p t.regs _
    rw [hvblank] at h6
    simpa [hreg] using h h6

theorem Tia.sampleButtons_latchesHeld (i : Inputs) (t : Tia) : LatchesHeld (t.sampleButtons i) := by
  rw [Tia.sampleButtons_eq]
  intro h6
  simp [h6]

/-! The TIA's part of the invariant. -/

/-- What the invariant says of the TIA, but for the alignment of the beam, which only the ticks of a whole cycle keep. -/
structure TiaFormed (t : Tia) : Prop where
  hcount_lt : t.hcount < 228
  regs : RegsMasked t.regs
  positions : PositionsInRange t.pos
  latches : LatchesHeld t
  line : RowFormed t.line
  raster : RasterFormed t.raster
  frames : ∀ f ∈ t.frames, RasterFormed f

namespace TiaFormed

variable {t : Tia} (h : TiaFormed t)
include h

theorem draw_line (p : Params) : RowFormed (t.draw p).line := by
  unfold Tia.draw
  dsimp only
  split
  · have := h.hcount_lt
    exact h.line.write (by omega) (Tia.pixel_bit0 h.regs p _)
  · exact h.line

theorem draw_committed (p : Params) : RasterFormed ((t.draw p).committed p) :=
  Tia.committed_formed (h.draw_line p) h.raster p

theorem tick (p : Params) : TiaFormed (t.tick p) where
  hcount_lt := by
    rw [Tia.tick_hcount]
    split <;> omega
  regs := by
    rw [Tia.tick_regs]
    exact h.regs
  positions := by
    rw [Tia.tick_pos]
    exact Positions.tick_inRange h.positions ..
  latches := by
    unfold LatchesHeld
    rw [Tia.tick_regs, Tia.tick_latch4, Tia.tick_latch5]
    exact h.latches
  line := by
    rw [Tia.tick_line]
    split
    · exact rowFormed_nil
    · exact h.draw_line p
  raster := by
    rw [Tia.tick_raster]
    split_ifs
    · exact rasterFormed_nil
    · exact h.draw_committed p
    · exact h.raster
  frames := by
    rw [Tia.tick_frames]
    split
    · exact List.forall_mem_cons.2 ⟨h.draw_committed p, h.frames⟩
    · exact h.frames

theorem endOfLine (p : Params) : TiaFormed (t.endOfLine p) := by
  have hcommitted := Tia.committed_formed h.line h.raster p
  refine ⟨by simp, h.regs, h.positions, h.latches, rowFormed_nil, ?_, ?_⟩ <;> simp only [Tia.endOfLine] <;> split
  · exact rasterFormed_nil
  · exact hcommitted
  · exact List.forall_mem_cons.2 ⟨hcommitted, h.frames⟩
  · exact h.frames

theorem write (p : Params) (o : BitVec 6) (v : Byte) : TiaFormed (t.write p o v) := by
  have hpicture : RasterFormed (t.write p o v).raster ∧ ∀ f ∈ (t.write p o v).frames, RasterFormed f := by
    obtain ⟨hr, hf⟩ | ⟨hr, hf⟩ := t.write_frames p o v <;> rw [hr, hf]
    · exact ⟨h.raster, h.frames⟩
    · exact ⟨rasterFormed_nil, List.forall_mem_cons.2 ⟨h.raster, h.frames⟩⟩
  have hregs : RegsMasked (t.write p o v).regs := by
    rw [Tia.write_regs]
    split
    · exact h.regs.write p _ v
    · exact h.regs
  have hlatches : LatchesHeld (t.write p o v) := by
    obtain hw | ⟨reg, -, hw⟩ := t.write_cases p o v <;> rw [hw]
    · exact h.latches
    · exact Tia.writeReg_latchesHeld h.latches p reg v
  refine ⟨?_, hregs, ?_, hlatches, ?_, hpicture.1, hpicture.2⟩
  · rw [Tia.write_hcount]
    exact h.hcount_lt
  · rw [Tia.write_pos]
    exact h.positions
  · rw [Tia.write_line]
    exact h.line

theorem sampleButtons (i : Inputs) : TiaFormed (t.sampleButtons i) := by
  have hlatches := t.sampleButtons_latchesHeld i
  rw [Tia.sampleButtons_eq] at hlatches ⊢
  exact ⟨h.hcount_lt, h.regs, h.positions, hlatches, h.line, h.raster, h.frames⟩

theorem hostReset : TiaFormed t.hostReset :=
  ⟨by simp [Tia.hostReset], h.regs, h.positions, h.latches, rowFormed_nil, rasterFormed_nil, h.frames⟩

end TiaFormed

theorem tiaFormed_keptByCycles : KeptByCycles (fun _ => True) (fun s => TiaFormed s.tia) :=
  .of_tia (fun p _ => Tia.tick3_induct fun _ h => h.tick p) (fun _ v p _ _ _ h => h.write p _ v)
    (fun p _ h => h.endOfLine p)
    (fun _ _ hpos h => ⟨h.hcount_lt, h.regs, hpos h.positions, h.latches, h.line, h.raster, h.frames⟩)

/-! The timer and RAM (R322, 20_memory.md R64). -/

theorem busWrite_riot (a : Word) (v : Byte) (s : State) :
    (busWrite a v s).riot = s.riot ∨ ∃ reg, (busWrite a v s).riot = s.riot.write reg v := by
  unfold busWrite
  split
  · exact .inl rfl
  · exact .inl rfl
  · exact .inl rfl
  · exact .inr ⟨_, rfl⟩

theorem timer_keptByCycles : KeptByCycles (fun _ => True) (fun s => TimerInRange s.riot) where
  cpu _ _ h := h
  ticks _ h := Riot.tick_timerInRange h
  read a u h := by
    obtain hr | ⟨reg, hr⟩ := busRead_riot a u <;> rw [hr]
    · exact h
    · rw [TimerInRange, Riot.afterRead_pre, Riot.afterRead_div]
      exact h
  write a v u _ h := by
    rw [writeCycle, busDeferred_riot, ticks_riot]
    obtain hw | ⟨reg, hw⟩ := busWrite_riot a v u <;> rw [hw]
    · exact Riot.tick_timerInRange h
    · exact Riot.tick_timerInRange (Riot.write_timerInRange h reg v)

theorem ramFormed_keptByCycles : KeptByCycles (fun _ => True) (fun s => RamFormed s.ram) where
  cpu _ _ h := h
  ticks _ h := h
  read a u h := by
    rw [busRead_ram]
    exact h
  write a v u _ h := by
    rw [writeCycle_ram]
    exact storeRam_formed h a v

theorem machineInvariant_iff (s : State) :
    MachineInvariant s ↔
      (BeamInRange s.tia ∧ TiaFormed s.tia) ∧ TimerInRange s.riot ∧ RamFormed s.ram := by
  constructor
  · rintro ⟨hbeam, ⟨hregs, hpos, htimer, hlatches⟩, hram, hline, hraster, hframes⟩
    exact ⟨⟨hbeam, hbeam.1, hregs, hpos, hlatches, hline, hraster, hframes⟩, htimer, hram⟩
  · rintro ⟨⟨hbeam, -, hregs, hpos, hlatches, hline, hraster, hframes⟩, htimer, hram⟩
    exact ⟨hbeam, ⟨hregs, hpos, htimer, hlatches⟩, hram, hline, hraster, hframes⟩

theorem invariant_keptByCycles :
    KeptByCycles (fun _ => True) fun s =>
      (BeamInRange s.tia ∧ TiaFormed s.tia) ∧ TimerInRange s.riot ∧ RamFormed s.ram :=
  (beam_keptByCycles.and tiaFormed_keptByCycles).and (timer_keptByCycles.and ramFormed_keptByCycles)

/-- Settles O46: every cycle keeps each part of the invariant, and so do a sample, a reset and a load. -/
theorem stepsKeepTheInvariant : Obligations.StepsKeepTheInvariant := by
  intro s t h hstep
  rw [machineInvariant_iff] at h ⊢
  refine invariant_keptByCycles.step (fun _ => trivial) (fun i u hu => ?_) (fun u hu => ?_) (fun _ _ _ hu => hu)
    (fun _ _ hu => hu) h t hstep
  · obtain ⟨⟨hbeam, htia⟩, hrest⟩ := hu
    exact ⟨⟨Tia.sampleButtons_beamInRange i hbeam, htia.sampleButtons i⟩, hrest⟩
  · obtain ⟨⟨-, htia⟩, hrest⟩ := hu
    exact ⟨⟨u.tia.hostReset_beamInRange, htia.hostReset⟩, hrest⟩

end Sys2Proof.Machine

/-! The steps and stops of the machine (60_exceptions.md R300 to R304, R410 to R412). -/

namespace Sys2Proof.Machine

/-- A CPU step of a running machine samples its vector and runs one instruction (R411). -/
theorem cpuStep_of_running {s : State} (h : s.running = true) (i : Inputs) :
    cpuStep i s = runInstruction (sampleInputs i s) := by
  obtain ⟨hvalid, hfault⟩ : s.cart.valid = true ∧ s.fault = none := by simpa [State.running] using h
  simp only [cpuStep, hvalid, hfault, if_true]

theorem cpuStep_of_fault {s : State} {info : FaultInfo} (hvalid : s.cart.valid = true) (hfault : s.fault = some info)
    (i : Inputs) : cpuStep i s = .fault (.unimplementedOpcode info s) := by
  simp only [cpuStep, hvalid, hfault, if_true]

theorem cpuStep_of_refused {s : State} (h : s.cart.valid = false) (i : Inputs) : cpuStep i s = refuseCartridge s := by
  simp only [cpuStep, h, Bool.false_eq_true, if_false]

theorem step_of_idle {s : State} (h : s.host = []) : step s = cpuStep s.inputs s := by
  simp only [step, h]

theorem step_of_sample {s : State} {i : Inputs} {rest : List HostEvent} (h : s.host = .sample i :: rest) :
    step s = cpuStep i { s with host := rest } := by
  simp only [step, h]

theorem step_of_reset {s : State} {rest : List HostEvent} (h : s.host = .reset :: rest) :
    step s = takeReset { s with host := rest } := by
  simp only [step, h]

theorem step_of_load {s : State} {rom : Rom} {id : MapperId} {rest : List HostEvent} (h : s.host = .load rom id :: rest) :
    step s = loadCartridge rom id { s with host := rest } := by
  simp only [step, h]

theorem sampleInputs_eq (i : Inputs) (s : State) :
    sampleInputs i s = { s with
      inputs := i
      tia := { s.tia with
        latch4 := if bitAt s.tia.regs.vblank 6 then s.tia.latch4 && i.fire0 else true
        latch5 := if bitAt s.tia.regs.vblank 6 then s.tia.latch5 && i.fire1 else true } } := by
  rw [sampleInputs, Tia.sampleButtons_eq]

/-- Settles O6: the step is the CPU step with that vector, and a sample moves the button latches alone. -/
theorem inputsAreSampledBeforeEachStep : Obligations.InputsAreSampledBeforeEachStep := by
  intro s i rest hrun hhost latching
  have hstep : step s = runInstruction (sampleInputs i { s with host := rest }) := by
    obtain hhost | ⟨hhost, rfl, rfl⟩ := hhost
    · rw [step_of_sample hhost]
      exact cpuStep_of_running (s := { s with host := rest }) hrun i
    · rw [step_of_idle hhost, cpuStep_of_running hrun, ← hhost]
  rw [hstep, sampleInputs_eq]
  rfl

/-- Settles O8: the CPU step answers the fault before it samples or fetches, and a refused cartridge takes no reset. -/
theorem stoppedMachineStaysStopped : Obligations.StoppedMachineStaysStopped := by
  refine ⟨fun s info hvalid hfault => ⟨fun hhost => ?_, fun i rest hhost => ?_⟩, fun s hrefused =>
    ⟨fun hhost => ?_, fun i rest hhost => ?_, fun rest hhost => ?_⟩⟩
  · rw [step_of_idle hhost]
    exact cpuStep_of_fault hvalid hfault s.inputs
  · rw [step_of_sample hhost]
    exact cpuStep_of_fault (s := { s with host := rest }) hvalid hfault i
  · rw [step_of_idle hhost]
    exact cpuStep_of_refused hrefused s.inputs
  · rw [step_of_sample hhost]
    exact cpuStep_of_refused (s := { s with host := rest }) hrefused i
  · rw [step_of_reset hhost]
    exact takeReset_of_refused (s := { s with host := rest }) hrefused

/-! Loads (R304). -/

theorem loadCartridge_of_valid {rom : Rom} {id : MapperId} (h : (Cart.mk rom id 0).valid = true) (s : State) :
    loadCartridge rom id s = .next (hostReset { s with cart := ⟨rom, id, 0⟩ }) := by
  simp only [loadCartridge, h, if_true]

theorem loadCartridge_of_refused {rom : Rom} {id : MapperId} (h : (Cart.mk rom id 0).valid = false) (s : State) :
    loadCartridge rom id s = .fault (.invalidCartridge rom.size id { s with cart := ⟨rom, id, 0⟩ }) := by
  simp only [loadCartridge, h, Bool.false_eq_true, if_false, refuseCartridge]

theorem Cart.valid_plain_iff (rom : Rom) : (Cart.mk rom .none 0).valid = true ↔ rom.size = 2048 ∨ rom.size = 4096 := by
  simp [Cart.valid, mapperOf, plainMapper]

/-- F8, F6 and F4 accept the size of their banks (20_memory.md R71). -/
theorem Cart.valid_hotspots_iff (rom : Rom) {id : MapperId} {n first : Nat} (h : mapperOf id = some (hotspotMapper n first)) :
    (Cart.mk rom id 0).valid = true ↔ rom.size = n * 4096 := by
  simp [Cart.valid, h, hotspotMapper]

/-- Settles O10: a load is the mapper's size test, then the reset of R430 with the new image. -/
theorem cartridgeIsCheckedAtLoad : Obligations.CartridgeIsCheckedAtLoad := by
  intro s rom id rest hhost
  rw [step_of_load hhost]
  refine ⟨⟨fun hvalid => ?_, fun hrefused => ⟨_, loadCartridge_of_refused hrefused _⟩⟩, Cart.valid_plain_iff rom,
    Cart.valid_hotspots_iff rom (n := 2) rfl, Cart.valid_hotspots_iff rom (n := 4) rfl,
    Cart.valid_hotspots_iff rom (n := 8) rfl⟩
  refine ⟨_, loadCartridge_of_valid hvalid _, rfl, rfl, rfl, ?_, rfl, rfl⟩
  exact mkWord_eq_word _ _

/-! Instructions that complete, and the one that stops (R300, R301). -/

theorem branchIf_completes (taken : Bool) (offset : Byte) (s : State) : ∃ t, branchIf taken offset s = .next t := by
  cases taken <;> exact ⟨_, rfl⟩

/-- Settles O39: every meaning but that of an undocumented byte ends in a next state, a branch on both its paths. -/
theorem everyDocumentedInstructionCompletes : Obligations.EveryDocumentedInstructionCompletes := by
  intro i s h
  cases i with
  | unimpl op => exact absurd rfl h
  | bpl b | bmi b | bvc b | bvs b | bcc b | bcs b | bne b | beq b => exact branchIf_completes _ b s
  | _ => exact ⟨_, rfl⟩

theorem exec_unimpl (op : Byte) (s : State) : exec (.unimpl op) s = raiseUnimplemented op s := rfl

theorem fetchInstr_of_bare {s : State} {i : Instr} (h : shapeOf (fetchByte s).1 = .bare i) :
    fetchInstr s = (i, (fetchByte s).2) := by
  simp only [fetchInstr, h]

/-- Settles O7: the byte's shape gives the undocumented instruction, which is the fault; PC stands one past the opcode. -/
theorem undocumentedOpcodeStopsTheMachine : Obligations.UndocumentedOpcodeStopsTheMachine := by
  refine ⟨fun op s => rfl, fun s hrun hhost => ?_⟩
  intro f hop
  have hpc : f.2.cpu.pc - 1 = s.cpu.pc := by
    rw [fetchByte_pc, sampleInputs_cpu]
    bv_omega
  rw [step_of_idle hhost, cpuStep_of_running hrun, runInstruction, fetchInstr_of_bare (shapeOf_undocumented hop),
    exec_unimpl, raiseUnimplemented, hpc]

/-! The fetch (40_load_store.md R132): the bytes of the instruction's encoding, one read cycle each. -/

theorem fetchBytes_length (n : Nat) (s : State) : (fetchBytes n s).1.length = n := by
  induction n generalizing s with
  | zero => rfl
  | succ n ih => simp [fetchBytes, ih]

theorem shapeOf_call {op : Byte} {f : Word → Instr} (h : shapeOf op = .call f) : f = .jsr := by
  unfold shapeOf at h
  split at h
  · next sh hsh => exact opcodeTable_call _ (lookupShape_mem hsh) f h
  · cases h

/-- Bytes at PC that are an instruction's encoding are fetched as that instruction; JSR's last byte comes late (R250). -/
theorem fetchInstr_of_decode {s : State} {n : Nat} {i : Instr} (hjsr : mnemonic i ≠ .jsr)
    (h : decode (fetchBytes n s).1 = .ok i []) : fetchInstr s = (i, (fetchBytes n s).2) := by
  have hlen := fetchBytes_length n s
  cases n with
  | zero => cases h
  | succ n =>
    obtain ⟨hg, hbytes⟩ := gives_of_decode h
    have henc := shapeOf_encodes (fetchByte s).1
    rw [List.append_nil] at hbytes
    generalize hsh : shapeOf (fetchByte s).1 = sh at hg henc
    cases hg with
    | bare i =>
      rw [henc.2] at hbytes
      obtain rfl : n = 0 := by simpa [fetchBytes_length] using congrArg List.length hbytes
      simp only [fetchInstr, hsh, fetchBytes]
    | byte f b =>
      rw [(henc b).2] at hbytes
      obtain rfl : n = 1 := by simpa [fetchBytes_length] using congrArg List.length hbytes
      simp only [fetchBytes, List.cons.injEq, true_and, and_true] at hbytes
      simp only [fetchInstr, hsh, fetchBytes, hbytes]
    | word f w =>
      rw [(henc w).2] at hbytes
      obtain rfl : n = 2 := by simpa [encodeWord, fetchBytes_length] using congrArg List.length hbytes
      simp only [fetchBytes, encodeWord, List.cons.injEq, true_and, and_true] at hbytes
      obtain ⟨hlow, hhigh⟩ := hbytes
      simp only [fetchInstr, hsh, fetchBytes, hlow, hhigh, mkWord_hiByte_loByte]
    | call f w =>
      rw [shapeOf_call hsh] at hjsr
      exact absurd rfl hjsr

/-- Settles O5: the step is the fetch and `exec`, and the fetch gives what the bytes decode to, JSR with the byte that is
read after its pushes. -/
theorem stepRunsTheDecodedInstruction : Obligations.StepRunsTheDecodedInstruction := by
  intro s hrun hhost
  rw [step_of_idle hhost, cpuStep_of_running hrun, runInstruction]
  refine ⟨fun n i hjsr hdecode => ?_, fun low hbytes => ?_⟩
  · rw [fetchInstr_of_decode hjsr hdecode]
  · rw [fetchInstr_of_jsr _ hbytes, mkWord_eq_word]
    rfl

/-! Time (R356, R410) and the wait state (R346, R412). -/

/-- Where the beam stands after a cycle: three clocks on, or at the start of the next line. -/
theorem Tia.tick3_beam_cases {t : Tia} (h : BeamInRange t) (p : Params) :
    (t.hcount = 225 ∧ (t.tick3 p).hcount = 0 ∧ (t.tick3 p).vcount = (t.vcount + 1) % 262
        ∧ (t.tick3 p).waiting = false)
      ∨ (t.hcount + 3 < 228 ∧ (t.tick3 p).hcount = t.hcount + 3 ∧ (t.tick3 p).vcount = t.vcount
        ∧ (t.tick3 p).waiting = t.waiting) := by
  obtain ⟨hlt, hmod, -⟩ := h
  simp only [Tia.tick3, Tia.tick_hcount, Tia.tick_vcount, Tia.tick_waiting]
  by_cases hend : t.hcount = 225
  · left
    simp [hend]
  · right
    have h1 : ¬ 228 ≤ t.hcount + 1 := by omega
    have h2 : ¬ 228 ≤ t.hcount + 1 + 1 := by omega
    have h3 : ¬ 228 ≤ t.hcount + 1 + 1 + 1 := by omega
    have hlt' : t.hcount + 3 < 228 := by omega
    simp only [h1, h2, h3, hlt', if_false, and_self]

/-- Settles O43, from where the beam stands after a cycle. -/
theorem cycleMovesTheBeamByThree : Obligations.CycleMovesTheBeamByThree := by
  intro s h
  have hkept := Tia.tick3_beamInRange h s.params
  have hv := h.2.2
  unfold Tia.beam
  rw [ticks_tia]
  obtain ⟨hend, hh, hv', hw⟩ | ⟨hlt, hh, hv', hw⟩ := Tia.tick3_beam_cases h s.params <;> rw [hh, hv', hw]
  · exact ⟨by omega, hkept, fun _ => rfl, fun hne => absurd rfl hne, rfl, rfl⟩
  · exact ⟨by omega, hkept, fun hz => by omega, fun _ => rfl, rfl, rfl⟩

theorem holdFor_of_not_waiting (n : Nat) {s : State} (h : s.tia.waiting = false) : holdFor n s = s := by
  cases n <;> simp [holdFor, h]

/-- While the latch is set, enough cycles to reach the end of the line hold to its end and no further. -/
theorem holdFor_of_waiting (n : Nat) {s : State} (h : BeamInRange s.tia) (hw : s.tia.waiting = true)
    (hn : 228 - s.tia.hcount ≤ 3 * n) :
    (holdFor n s).tia.hcount = 0 ∧ (holdFor n s).tia.vcount = (s.tia.vcount + 1) % 262
      ∧ (holdFor n s).tia.waiting = false ∧ (holdFor n s).cycles = s.cycles + (228 - s.tia.hcount) / 3 := by
  induction n generalizing s with
  | zero =>
    obtain ⟨hlt, -⟩ := h
    omega
  | succ n ih =>
    have hstep : holdFor (n + 1) s = holdFor n (ticks s) := by rw [holdFor, if_pos hw]
    rw [hstep]
    obtain ⟨hend, hh, hv, hw'⟩ | ⟨hlt, hh, hv, hw'⟩ := Tia.tick3_beam_cases h s.params
    · rw [holdFor_of_not_waiting n hw', hend]
      exact ⟨hh, hv, hw', rfl⟩
    · obtain ⟨hh', hv', hw'', hc⟩ := ih (s := ticks s) (Tia.tick3_beamInRange h s.params) (hw'.trans hw)
        (by rw [ticks_tia, hh]; omega)
      rw [ticks_tia, hv] at hv'
      rw [ticks_tia, ticks_cycles, hh] at hc
      exact ⟨hh', hv', hw'', by omega⟩

theorem hold_of_waiting {s : State} (h : BeamInRange s.tia) (hw : s.tia.waiting = true) :
    (hold s).tia.hcount = 0 ∧ (hold s).tia.vcount = (s.tia.vcount + 1) % 262 ∧ (hold s).tia.waiting = false
      ∧ (hold s).cycles = s.cycles + (228 - s.tia.hcount) / 3 :=
  holdFor_of_waiting 76 h hw (by omega)

theorem writeCycle_wsync_waiting {a : Word} (ha : isTia a = true) (ho : a.toNat % 64 = 2) (v : Byte) {s : State}
    (h : BeamInRange s.tia) : (writeCycle a v s).tia.waiting = decide (s.tia.hcount ≠ 225) := by
  have hreg : tiaRegAt (busOffset 6 a) = some .wsync := tiaRegAt_busOffset ho
  have hbeam := Tia.write_beamInRange h s.params (busOffset 6 a) v
  have hset : (s.tia.write s.params (busOffset 6 a) v).waiting = true := by
    rw [Tia.write_of_reg hreg, Tia.writeReg_eq]
    simp
  rw [writeCycle_tia_of_isTia ha, Tia.deferred_of_reg hreg]
  change (Tia.tick3 s.params _).waiting = _
  obtain ⟨hend, -, -, hw⟩ | ⟨hlt, -, -, hw⟩ := Tia.tick3_beam_cases hbeam s.params <;> rw [hw]
  · rw [Tia.write_hcount] at hend
    simp [hend]
  · rw [Tia.write_hcount] at hlt
    rw [hset, eq_comm, decide_eq_true_iff]
    omega

/-- Settles O44: the strobe's own ticks may end the line; a held read begins where the hold ends, with the latch clear. -/
theorem wsyncHoldsReadsToTheNextLine : Obligations.WsyncHoldsReadsToTheNextLine := by
  intro a v s h
  refine ⟨fun ha ho => writeCycle_wsync_waiting ha ho v h, fun hw => ?_, hold_of_not_waiting⟩
  obtain ⟨hh, hv, hclear, hc⟩ := hold_of_waiting h hw
  refine ⟨hh, hv, hclear, hc, hold_cpu s, hold_ram s, hold_cart s, ?_, writeCycle_cycles a v s⟩
  rw [readCycle, readCycle, hold_of_not_waiting hclear]

end Sys2Proof.Machine

/-! TIA writes (60_exceptions.md R341, R343, R368, R371, R384, R391): the registers and slots they store, what waits for the end
of their cycle, and the latches CXCLR clears. -/

namespace Sys2Proof.Machine

open Sys2Proof.Claims (writeRegisters motionRegs delayedRegs LineEnds LatchesGrow)

theorem tiaWriteMap_map_mask : tiaWriteMap.map (fun reg => (reg, reg.mask)) = writeRegisters := rfl

/-- Offsets $2D to $3F have no register. -/
theorem tiaRegAt_busOffset_of_le {a : Word} (h : 45 ≤ a.toNat % 64) : tiaRegAt (busOffset 6 a) = none := by
  rw [tiaRegAt_busOffset rfl]
  exact List.getElem?_eq_none h

theorem Tia.write_of_none {o : BitVec 6} (h : tiaRegAt o = none) (p : Params) (t : Tia) (v : Byte) :
    t.write p o v = t := by
  simp only [Tia.write, h]

theorem Tia.write_regs_of_reg {o : BitVec 6} {reg : TiaReg} (h : tiaRegAt o = some reg) (p : Params) (t : Tia)
    (v : Byte) : (t.write p o v).regs = t.regs.write p reg (v &&& reg.mask) := by
  rw [Tia.write_regs, h]

theorem TiaReg.mask_of_isStrobe {reg : TiaReg} (h : reg.isStrobe = true) : reg.mask = 0 := by
  cases reg with
  | wsync | rsync | resp0 | resp1 | resm0 | resm1 | resbl | hmove | hmclr | cxclr => rfl
  | _ => cases h

/-- What a register holds after its write: the byte under its mask, which is 0 for a strobe. -/
theorem TiaRegs.stored_write_masked (p : Params) (r : TiaRegs) (reg : TiaReg) (v : Byte) :
    (r.write p reg (v &&& reg.mask)).stored reg = v &&& reg.mask := by
  rw [TiaRegs.stored_write_self]
  split
  · next h =>
    rw [TiaReg.mask_of_isStrobe h]
    exact BitVec.and_zero.symm
  · rfl

theorem TiaRegs.write_old_of_not_delayed {reg : TiaReg} (h : reg ∉ delayedRegs) (p : Params) (r : TiaRegs) (w : Byte) :
    (r.write p reg w).grp0Old = r.grp0Old ∧ (r.write p reg w).grp1Old = r.grp1Old
      ∧ (r.write p reg w).enablOld = r.enablOld ∧ (r.write p reg w).colup0Old = r.colup0Old
      ∧ (r.write p reg w).colup1Old = r.colup1Old ∧ (r.write p reg w).colupfOld = r.colupfOld := by
  cases reg with
  | grp0 | grp1 | enabl | colup0 | colup1 | colupf => exact absurd (by decide) h
  | _ => exact ⟨rfl, rfl, rfl, rfl, rfl, rfl⟩

/-- Settles O48: the map of offsets is R341's, and a write is that of its register, whose whole effect `writeReg_eq` gives. -/
theorem tiaWritesAreMasked : Obligations.TiaWritesAreMasked := by
  refine ⟨fun k o hk => ?_, fun a v s ha => ⟨fun hno => ?_, fun reg hreg => ?_⟩⟩
  · rw [tiaRegAt, hk, ← tiaWriteMap_map_mask, List.getElem?_map]
  · rw [busWrite_of_isTia ha, Tia.write_of_none (tiaRegAt_busOffset_of_le hno)]
  · have hregs : (busWrite a v s).tia.regs = s.tia.regs.write s.params reg (v &&& reg.mask) := by
      rw [busWrite_of_isTia ha]
      exact Tia.write_regs_of_reg hreg s.params s.tia v
    rw [hregs]
    refine ⟨TiaRegs.stored_write_masked .., fun hclr => ?_, fun reg' hne hclr => ?_, fun hold => ?_, ?_⟩
    · subst hclr
      exact TiaRegs.stored_write_hmclr _ _ _
    · exact TiaRegs.stored_write_of_ne hne hclr _ _ _
    · exact TiaRegs.write_old_of_not_delayed hold _ _ _
    · rw [busWrite_of_isTia ha, Tia.write_of_reg hreg, Tia.writeReg_eq]

/-- Settles O49: the register at each of the six offsets, and the slots its write copies under each rule. -/
theorem verticalDelayCopies : Obligations.VerticalDelayCopies := by
  intro p t v r
  have hfull : v &&& TiaReg.grp0.mask = v := BitVec.and_allOnes
  have h0 := Tia.write_regs_of_reg (o := 0x1B) (reg := .grp0) rfl p t v
  have h1 := Tia.write_regs_of_reg (o := 0x1C) (reg := .grp1) rfl p t v
  have hb := Tia.write_regs_of_reg (o := 0x1F) (reg := .enabl) rfl p t v
  have hc0 := Tia.write_regs_of_reg (o := 0x06) (reg := .colup0) rfl p t v
  have hc1 := Tia.write_regs_of_reg (o := 0x07) (reg := .colup1) rfl p t v
  have hcf := Tia.write_regs_of_reg (o := 0x08) (reg := .colupf) rfl p t v
  rw [hfull] at h0
  rw [show TiaReg.grp1.mask = TiaReg.grp0.mask from rfl, hfull] at h1
  rw [h0, h1, hb, hc0, hc1, hcf]
  constructor <;> intro hrule <;> simp only [TiaRegs.write, hrule] <;> exact ⟨rfl, rfl, rfl, rfl, rfl, rfl⟩

/-! What waits for the end of the write cycle (R371, R384). -/

theorem motionClock_iff (ext : Bool) (h : Nat) : motionClock ext h = true ↔ 68 ≤ h ∧ ¬(ext = true ∧ h < 76) := by
  cases ext <;> simp [motionClock]

theorem Tia.strobePosition_eq (t : Tia) (delay blankPos : Fin 16) :
    t.strobePosition delay blankPos =
      if 68 ≤ t.hcount ∧ ¬(t.motion.ext = true ∧ t.hcount < 76) then (160 - delay.val) % 160
      else (160 - blankPos.val) % 160 := by
  simp only [Tia.strobePosition, motionClock_iff]

theorem writeCycle_of_isTia {a : Word} (h : isTia a = true) (v : Byte) (s : State) :
    writeCycle a v s =
      let u := ticks (busWrite a v s)
      { u with tia := u.tia.deferred s.params (busOffset 6 a) } := by
  simp only [writeCycle, busDeferred_of_isTia h, ticks_params, busWrite_params]

/-- The registers whose write has an effect at the end of its cycle (R371, R384). -/
def deferredRegs : List TiaReg := [.rsync, .resp0, .resp1, .resm0, .resm1, .resbl]

theorem Tia.deferredReg_of_not_mem {reg : TiaReg} (h : reg ∉ deferredRegs) (p : Params) (t : Tia) :
    t.deferredReg p reg = t := by
  cases reg with
  | rsync | resp0 | resp1 | resm0 | resm1 | resbl => exact absurd (by decide) h
  | _ => rfl

/-- They stand at $03 and $10 to $14. -/
theorem tiaRegAt_deferredRegs : ∀ (o : BitVec 6) (reg : TiaReg), reg ∈ deferredRegs → tiaRegAt o = some reg →
    o.toNat = 0x03 ∨ 0x10 ≤ o.toNat ∧ o.toNat ≤ 0x14 := by
  have h : ∀ k : Fin 64, ∀ reg ∈ deferredRegs, tiaRegAt (BitVec.ofFin k) = some reg →
      k.val = 0x03 ∨ 0x10 ≤ k.val ∧ k.val ≤ 0x14 := by decide
  exact fun o reg => h o.toFin reg

theorem Tia.deferred_of_offset {a : Word} (h3 : a.toNat % 64 ≠ 0x03)
    (h : a.toNat % 64 < 0x10 ∨ 0x14 < a.toNat % 64) (p : Params) (t : Tia) : t.deferred p (busOffset 6 a) = t := by
  unfold Tia.deferred
  split
  · next reg hreg =>
    refine Tia.deferredReg_of_not_mem (fun hmem => ?_) p t
    have := tiaRegAt_deferredRegs _ reg hmem hreg
    rw [busOffset_toNat] at this
    omega
  · rfl

/-- A row of the raster after the commit at the end of a line (R345, R395). -/
theorem Tia.committed_row {t : Tia} (h : cellsWf [] t.raster = true) (p : Params) (k : Nat) :
    (t.committed p).row k =
      if p.visibleFirstLine.val ≤ t.vcount ∧ t.vcount < p.visibleFirstLine.val + 192
        ∧ k = t.vcount - p.visibleFirstLine.val then t.line else t.raster.row k := by
  unfold Tia.committed
  by_cases hv : p.visibleFirstLine.val ≤ t.vcount ∧ t.vcount < p.visibleFirstLine.val + 192
  · have hvis : lineVisible p t.vcount = true := by simpa [lineVisible] using hv
    rw [if_pos hvis]
    by_cases hk : k = t.vcount - p.visibleFirstLine.val
    · rw [if_pos ⟨hv.1, hv.2, hk⟩, hk, Raster.row_commit_self _ _ h]
    · rw [if_neg fun hc => hk hc.2.2, Raster.row_commit_of_ne _ _ hk]
  · have hvis : ¬lineVisible p t.vcount = true := by simpa [lineVisible] using hv
    rw [if_neg hvis, if_neg fun hc => hv ⟨hc.1, hc.2.1⟩]

theorem Tia.endOfLine_lineEnds {t : Tia} (h : cellsWf [] t.raster = true) (p : Params) :
    LineEnds p t.line t (t.endOfLine p) :=
  ⟨rfl, rfl, rfl, rfl, t.committed p, Tia.committed_row h p, fun hz => ⟨if_pos hz, if_pos hz⟩,
    fun hnz => ⟨if_neg hnz, if_neg hnz⟩⟩

/-- Settles O50: the register at the offset, whose deferred effect acts on the state after the ticks. -/
theorem positionStrobesActAfterTheTicks : Obligations.PositionStrobesActAfterTheTicks := by
  intro a v s ha u clocked player small
  have hcycle : writeCycle a v s = { u with tia := u.tia.deferred s.params (busOffset 6 a) } :=
    writeCycle_of_isTia ha v s
  have hplayer : u.tia.strobePosition s.params.respDelayP s.params.respHblankPosP = player :=
    Tia.strobePosition_eq _ _ _
  have hsmall : u.tia.strobePosition s.params.respDelayMB s.params.respHblankPosMB = small :=
    Tia.strobePosition_eq _ _ _
  have hrsync (ho : a.toNat % 64 = 0x03) : u = ticks s := by
    have hreg : tiaRegAt (busOffset 6 a) = some .rsync := tiaRegAt_busOffset ho
    have hwrite : busWrite a v s = s := by
      rw [busWrite_of_isTia ha, Tia.write_of_reg hreg]
      rfl
    exact congrArg ticks hwrite
  refine ⟨fun ho => ?_, fun ho => ?_, fun ho => ?_, fun ho => ?_, fun ho => ?_, fun h3 ho => ?_, fun ho hp => ?_,
    fun ho hp hwf => ?_⟩
  · rw [hcycle, Tia.deferred_of_reg (reg := .resp0) (tiaRegAt_busOffset ho), Tia.deferredReg, hplayer]
  · rw [hcycle, Tia.deferred_of_reg (reg := .resp1) (tiaRegAt_busOffset ho), Tia.deferredReg, hplayer]
  · rw [hcycle, Tia.deferred_of_reg (reg := .resm0) (tiaRegAt_busOffset ho), Tia.deferredReg, hsmall]
  · rw [hcycle, Tia.deferred_of_reg (reg := .resm1) (tiaRegAt_busOffset ho), Tia.deferredReg, hsmall]
  · rw [hcycle, Tia.deferred_of_reg (reg := .resbl) (tiaRegAt_busOffset ho), Tia.deferredReg, hsmall]
  · rw [hcycle, Tia.deferred_of_offset h3 ho]
  · rw [hcycle, Tia.deferred_of_reg (reg := .rsync) (tiaRegAt_busOffset ho), Tia.deferredReg, hp, hrsync ho]
  · refine ⟨(ticks s).tia.endOfLine s.params, ?_, Tia.endOfLine_lineEnds hwf s.params, rfl⟩
    rw [hcycle, Tia.deferred_of_reg (reg := .rsync) (tiaRegAt_busOffset ho), Tia.deferredReg, hp, hrsync ho]

/-! Collision latches (R390, R391). -/

theorem latchesGrow_rfl (c : Collisions) : LatchesGrow c c :=
  ⟨id, id, id, id, id, id, id, id, id, id, id, id, id, id, id⟩

theorem latchesGrow_collide {c d : Collisions} (h : LatchesGrow c d) (a : Active) : LatchesGrow c (d.collide a) := by
  have grow {x y : Bool} (z : Bool) (hxy : x = true → y = true) (hx : x = true) : (y || z) = true := by
    rw [hxy hx, Bool.true_or]
  obtain ⟨h1, h2, h3, h4, h5, h6, h7, h8, h9, h10, h11, h12, h13, h14, h15⟩ := h
  exact ⟨grow _ h1, grow _ h2, grow _ h3, grow _ h4, grow _ h5, grow _ h6, grow _ h7, grow _ h8, grow _ h9, grow _ h10,
    grow _ h11, grow _ h12, grow _ h13, grow _ h14, grow _ h15⟩

theorem Tia.tick_latchesGrow {c : Collisions} {t : Tia} (h : LatchesGrow c t.cx) (p : Params) :
    LatchesGrow c (t.tick p).cx := by
  rw [Tia.tick_cx]
  split
  · exact latchesGrow_collide h _
  · exact h

/-- CXCLR stands at $2C alone. -/
theorem tiaRegAt_eq_cxclr : ∀ o : BitVec 6, tiaRegAt o = some .cxclr → o.toNat = 0x2C := by decide

theorem Tia.write_cx_of_ne {o : BitVec 6} (h : o.toNat ≠ 0x2C) (p : Params) (t : Tia) (v : Byte) :
    (t.write p o v).cx = t.cx := by
  obtain hw | ⟨reg, hreg, hw⟩ := t.write_cases p o v <;> rw [hw]
  have hne : reg ≠ .cxclr := by
    rintro rfl
    exact h (tiaRegAt_eq_cxclr o hreg)
  rw [Tia.writeReg_eq]
  exact if_neg hne

theorem latches_keptByCycles (c : Collisions) :
    KeptByCycles (fun a => ¬(isTia a = true ∧ a.toNat % 64 = 0x2C)) (fun s => LatchesGrow c s.tia.cx) := by
  refine .of_tia (P := fun t => LatchesGrow c t.cx) (fun p t h => ?_) (fun a v p t ha htia h => ?_) (fun _ _ h => h)
    (fun _ _ _ h => h)
  · exact Tia.tick3_induct (P := fun t => LatchesGrow c t.cx) (fun _ h => Tia.tick_latchesGrow h p) h
  · rw [Tia.write_cx_of_ne (fun ho => ha ⟨htia, (busOffset_toNat 6 a).symm.trans ho⟩)]
    exact h

/-- Settles O56: the write at $2C, and that every cycle but a write there keeps every latch that is set. -/
theorem onlyCxclrClearsCollisions : Obligations.OnlyCxclrClearsCollisions := by
  refine ⟨fun a v s ha ho => ?_, fun i s t hexec hmiss => ?_⟩
  · rw [busWrite_of_isTia ha, Tia.write_of_reg (reg := .cxclr) (tiaRegAt_busOffset ho)]
    rfl
  · exact (latches_keptByCycles s.tia.cx).exec i hmiss (latchesGrow_rfl _) t hexec

end Sys2Proof.Machine

/-! What a tick draws and moves (60_exceptions.md R344, R345, R351, R360 to R366, R373 to R377, R390, R394). -/

namespace Sys2Proof.Machine

open Sys2Proof.Claims (LineEnds)

/-! NUSIZ: copies and scale (R363). -/

theorem copyOffsets_eq (nusiz : Byte) : copyOffsets nusiz = Claims.copies nusiz := by
  have h : nusizMode nusiz < 8 := Nat.mod_lt _ (by decide)
  unfold copyOffsets Claims.copies
  change _ = List.getD _ (nusizMode nusiz) _
  generalize nusizMode nusiz = k at h
  interval_cases k <;> rfl

theorem playerScale_eq (nusiz : Byte) : playerScale nusiz = Claims.scale nusiz := by
  have h : nusizMode nusiz < 8 := Nat.mod_lt _ (by decide)
  unfold playerScale Claims.scale
  change _ = List.getD _ (nusizMode nusiz) _
  generalize nusizMode nusiz = k at h
  interval_cases k <;> rfl

theorem copyOffsets_le {nusiz : Byte} {s : Nat} (h : s ∈ copyOffsets nusiz) : s ≤ 64 := by
  have hk : ∀ k : Fin 8, ∀ s ∈ Claims.copies (BitVec.ofNat 8 k), s ≤ 64 := by decide
  have hmod : Claims.copies nusiz = Claims.copies (BitVec.ofNat 8 (nusiz.toNat % 8)) := by
    unfold Claims.copies
    rw [BitVec.toNat_ofNat]
    congr 1
    omega
  rw [copyOffsets_eq, hmod] at h
  exact hk ⟨nusiz.toNat % 8, Nat.mod_lt _ (by decide)⟩ s h

theorem columnOffset_cast {s : Nat} (h : s ≤ 160) (c : Nat) : (columnOffset c s : Int) = ((c : Int) - s) % 160 := by
  unfold columnOffset
  omega

/-! HMOVE (R374, R375) and the counters (R344, R370, R377). -/

/-- A tick of an open window is a pulse where it is slot k, for a k below the count (R374). -/
theorem hmovePulse_iff (p : Params) (m : Motion) (hm : Byte) :
    hmovePulse p m hm = true ↔
      m.active = true ∧ ∃ k, k < pulseCount hm ∧ m.t = p.hmovePulseStart.val + 4 * k := by
  simp only [hmovePulse, Bool.and_eq_true, decide_eq_true_eq, and_assoc]
  refine and_congr_right fun _ => ⟨fun ⟨hle, hslot, hlt⟩ => ⟨_, hlt, by omega⟩, fun ⟨k, hk, ht⟩ => ?_⟩
  rw [ht]
  omega

theorem hmovePulse_eq_pulsed (p : Params) (m : Motion) (hm : Byte) : hmovePulse p m hm = Claims.pulsed p m hm := by
  rw [Bool.eq_iff_iff, hmovePulse_iff, Claims.pulsed, decide_eq_true_iff]
  rfl

/-- A motion register asks for its signed high nibble plus 8 pulses. -/
theorem pulseCount_eq (hm : Byte) :
    pulseCount hm < 16 ∧ (pulseCount hm : Int) =
      (if hm.toNat / 16 < 8 then ((hm.toNat / 16 : Nat) : Int) else (hm.toNat / 16 : Nat) - 16) + 8 := by
  have h : ∀ k : Fin 16, k.val ^^^ 8 < 16 ∧ ((k.val ^^^ 8 : Nat) : Int) =
      (if k.val < 8 then (k.val : Int) else (k.val : Int) - 16) + 8 := by decide
  exact h ⟨hm.toNat / 16, by omega⟩

/-- Of the first `start + m` ticks of a window, each fourth from `start` on is a pulse, until the count is spent. -/
theorem pulses_before (p : Params) (hm : Byte) (ext : Bool) (m : Nat) :
    ((List.range (p.hmovePulseStart.val + m)).filter fun t =>
      hmovePulse p { active := true, t := t, ext := ext } hm).length = min (pulseCount hm) ((m + 3) / 4) := by
  induction m with
  | zero =>
    rw [List.length_eq_zero_iff.2 (List.filter_eq_nil_iff.2 fun t ht => ?_)]
    · simp
    · rw [List.mem_range] at ht
      simp only [hmovePulse_iff, not_and, not_exists]
      omega
  | succ m ih =>
    have hslot : hmovePulse p { active := true, t := p.hmovePulseStart.val + m, ext := ext } hm = true ↔
        m % 4 = 0 ∧ m / 4 < pulseCount hm := by
      simp only [hmovePulse_iff, true_and]
      exact ⟨fun ⟨k, hk, ht⟩ => by omega, fun ⟨h4, hlt⟩ => ⟨m / 4, hlt, by omega⟩⟩
    rw [← Nat.add_assoc, List.range_succ, List.filter_append, List.length_append, ih]
    by_cases h : hmovePulse p { active := true, t := p.hmovePulseStart.val + m, ext := ext } hm = true
    · have hcounts := hslot.1 h
      simp only [List.filter_cons, List.filter_nil, h, if_true, List.length_singleton]
      omega
    · have hpasses := mt hslot.2 h
      simp only [List.filter_cons, List.filter_nil, h, Bool.false_eq_true, if_false, List.length_nil]
      omega

/-- The window counts its ticks, and stays open until slot 15 (log 24). -/
theorem advance_iterate (p : Params) (ext : Bool) {j : Nat} (h : j < p.hmovePulseStart.val + 61) :
    Nat.iterate (Motion.advance p) j { active := true, t := 0, ext := ext } = { active := true, t := j, ext := ext } := by
  induction j with
  | zero => rfl
  | succ j ih =>
    rw [Function.iterate_succ_apply', ih (by omega)]
    have hopen : j < p.hmovePulseStart.val + 60 := by omega
    simp [Motion.advance, hopen]

theorem resmpOffset_eq (p : Params) (scale : Nat) :
    resmpOffset p scale =
      if scale = 1 then p.resmpOffsetSingle else if scale = 2 then p.resmpOffsetDouble else p.resmpOffsetQuad := by
  unfold resmpOffset
  split
  · rfl
  · rfl
  · next h1 h2 => rw [if_neg h1, if_neg h2]

theorem lockMissile_eq_locked (p : Params) (resmp nusiz : Byte) (player missile : Nat) :
    lockMissile p resmp nusiz player missile = Claims.locked p resmp nusiz player missile := by
  unfold lockMissile Claims.locked
  rw [playerScale_eq, resmpOffset_eq]
  generalize (if Claims.scale nusiz = 1 then p.resmpOffsetSingle
    else if Claims.scale nusiz = 2 then p.resmpOffsetDouble else p.resmpOffsetQuad) = offset
  have hcol : columnOffset player (offset % 160) = (((player : Int) - offset) % 160).toNat := by
    unfold columnOffset
    omega
  rw [hcol]
  rfl

theorem motionClock_eq_clocked (t : Tia) : motionClock t.motion.ext t.hcount = Claims.clocked t := by
  rw [Bool.eq_iff_iff, motionClock_iff, Claims.clocked, decide_eq_true_iff]

theorem stepPosition_eq_advanced (p : Params) (t : Tia) (hm : Byte) (c : Nat) :
    stepPosition (motionClock t.motion.ext t.hcount || hmovePulse p t.motion hm) c = Claims.advanced p t hm c := by
  rw [motionClock_eq_clocked, hmovePulse_eq_pulsed]
  rfl

/-- The counters after a tick (R344). -/
theorem Tia.tick_pos_eq (p : Params) (t : Tia) :
    let p0 := Claims.advanced p t t.regs.hmp0 t.pos.p0
    let p1 := Claims.advanced p t t.regs.hmp1 t.pos.p1
    (t.tick p).pos =
      { p0 := p0
        p1 := p1
        m0 := Claims.locked p t.regs.resmp0 t.regs.nusiz0 p0 (Claims.advanced p t t.regs.hmm0 t.pos.m0)
        m1 := Claims.locked p t.regs.resmp1 t.regs.nusiz1 p1 (Claims.advanced p t t.regs.hmm1 t.pos.m1)
        bl := Claims.advanced p t t.regs.hmbl t.pos.bl } := by
  simp only [Tia.tick_pos, Positions.tick, stepPosition_eq_advanced, lockMissile_eq_locked]

theorem Tia.tick_motion_eq (p : Params) (t : Tia) :
    (t.tick p).motion =
      { active := t.motion.active && decide (t.motion.t < p.hmovePulseStart.val + 60)
        t := if t.motion.active = true then t.motion.t + 1 else t.motion.t
        ext := t.motion.ext && decide (t.hcount + 1 ≠ 76) } := by
  rw [Tia.tick_motion, Motion.advance]
  cases h : t.motion.active <;> simp [h]

/-- Settles O51: the HMOVE write, the pulses of a window and its length, and the counters and the window after a tick. -/
theorem hmoveGivesMotionPlusEightPulses : Obligations.HmoveGivesMotionPlusEightPulses := by
  refine ⟨fun a v s ha ho => ?_, fun p hm ext => ?_, fun p t =>
    ⟨hmovePulse_eq_pulsed p t.motion, Tia.tick_pos_eq p t, Tia.tick_motion_eq p t⟩⟩
  · rw [busWrite_of_isTia ha, Tia.write_of_reg (reg := .hmove) (tiaRegAt_busOffset ho), Tia.writeReg]
    by_cases hblank : s.tia.hcount < 68 <;> simp [hblank]
  · intro n window
    obtain ⟨hlt, hcount⟩ := pulseCount_eq hm
    refine ⟨?_, fun j hj => advance_iterate p ext hj, ?_⟩
    · rw [pulses_before, ← hcount]
      omega
    · have hlast := advance_iterate p ext (j := p.hmovePulseStart.val + 60) (by omega)
      change (Nat.iterate (Motion.advance p) (p.hmovePulseStart.val + 60 + 1) _).active = false
      rw [Function.iterate_succ_apply', hlast]
      simp [Motion.advance]

/-! The playfield (R360, R361). -/

theorem pfPattern_eq (r : TiaRegs) {k : Nat} (h : k < 20) : r.pfPattern k = (Claims.playfieldPattern r).getD k false := by
  interval_cases k <;> rfl

theorem Tia.latchedPf_of_blank {t : Tia} (h : t.hcount < 68) : t.latchedPf = t.pfbit :=
  if_neg fun hc => absurd hc.1 (by omega)

theorem Tia.latchedPf_of_visible {t : Tia} {x : Nat} (h : t.hcount = 68 + x) :
    t.latchedPf = if x % 4 ≠ 0 then t.pfbit else t.regs.playfieldAt x := by
  have hx : t.hcount - 68 = x := by omega
  rw [Tia.latchedPf, hx, ite_not]
  exact if_congr (and_iff_right (by omega)) rfl rfl

/-- Settles O52: the bit at the first column of a group is that of the pattern, whose 20 bits the three registers give. -/
theorem playfieldPatternIsDrawn : Obligations.PlayfieldPatternIsDrawn := by
  refine fun p t => ⟨Tia.tick_pfbit p t, Tia.latchedPf_of_blank, fun x hx hh => ?_⟩
  rw [Tia.latchedPf_of_visible hh]
  refine if_congr Iff.rfl rfl ?_
  unfold TiaRegs.playfieldAt
  dsimp only
  by_cases hleft : x < 80
  · rw [if_pos hleft, if_pos hleft, pfPattern_eq _ (by omega), Nat.mod_eq_of_lt hleft]
  · have hk : x % 80 / 4 = x / 4 - 20 := by omega
    have hmirror : 19 - (x / 4 - 20) = 39 - x / 4 := by omega
    rw [if_neg hleft, if_neg hleft, hk, pfPattern_eq _ (by omega), pfPattern_eq _ (by omega), hmirror]
    rfl

/-! Colours (R382, R394). -/

/-- The colour of the first active layer of a list, or another one. -/
def firstActive (l : List (Bool × Byte)) (other : Byte) : Byte := ((l.find? fun e => e.1).map fun e => e.2).getD other

theorem firstActive_cons (b : Bool) (c : Byte) (l : List (Bool × Byte)) (other : Byte) :
    firstActive ((b, c) :: l) other = if b then c else firstActive l other := by
  cases b <;> rfl

theorem firstActive_append (l : List (Bool × Byte)) (b : Bool) (c other : Byte) :
    firstActive (l ++ [(b, c)]) other = firstActive l (if b then c else other) := by
  induction l with
  | nil => exact firstActive_cons b c [] other
  | cons e l ih => rw [List.cons_append, firstActive_cons, firstActive_cons, ih]

theorem playerColour_eq_firstActive (p : Params) (r : TiaRegs) (a : Active) (other : Byte) :
    r.playerColour p a other = firstActive (Claims.movers p r a) other := by
  unfold TiaRegs.playerColour Claims.movers
  cases p.pmPriority <;> simp only [firstActive_cons] <;> rfl

theorem layers_eq (p : Params) (r : TiaRegs) (a : Active) (x : Nat) :
    Claims.layers p r a x =
      let field := (a.pf || a.bl, r.pfBlColour p a x)
      if r.pfp = true then field :: Claims.movers p r a else Claims.movers p r a ++ [field] := rfl

/-- Settles O53: the field comes before or after the players and missiles, by CTRLPF bit 2. -/
theorem pixelTakesTheFirstActiveLayer : Obligations.PixelTakesTheFirstActiveLayer := by
  intro p r a x
  change r.colour p a x = firstActive (Claims.layers p r a x) r.colubk
  rw [TiaRegs.colour, layers_eq]
  by_cases hpfp : r.pfp = true
  · rw [if_pos hpfp, if_pos hpfp, firstActive_cons, playerColour_eq_firstActive]
  · rw [if_neg hpfp, if_neg hpfp, firstActive_append, playerColour_eq_firstActive]

/-! The row (R344, R351, R395). -/

theorem Tia.draw_line (p : Params) (t : Tia) :
    (t.draw p).line =
      if 68 ≤ t.hcount then t.line.write (t.hcount - 68) (t.pixel p (activeSet p t.regs t.pos t.latchedPf))
      else t.line := rfl

/-- The pixel of a visible clock: 0 when blanked or in the extended blank (R351, R375). -/
theorem Tia.pixel_of_visible {t : Tia} (h : 68 ≤ t.hcount) (p : Params) (a : Active) :
    t.pixel p a =
      if t.regs.vblank.getLsbD 1 = true ∨ (t.motion.ext = true ∧ t.hcount < 76) then 0
      else t.regs.colour p a (t.hcount - 68) := by
  have hiff : (motionClock t.motion.ext t.hcount && !t.regs.blanked) = true ↔
      ¬(t.regs.vblank.getLsbD 1 = true ∨ (t.motion.ext = true ∧ t.hcount < 76)) := by
    rw [Bool.and_eq_true, motionClock_iff, Bool.not_eq_true']
    simp only [TiaRegs.blanked, bitAt, h, true_and, not_or, Bool.not_eq_true]
    exact and_comm
  rw [Tia.pixel, if_congr hiff rfl rfl, ite_not]

/-- The last tick of a line ends it with the row it has drawn (R345). -/
theorem Tia.tick_lineEnds {t : Tia} (h : 228 ≤ t.hcount + 1) (hraster : cellsWf [] t.raster = true) (p : Params) :
    LineEnds p (t.draw p).line t (t.tick p) := by
  rw [Tia.tick, Tia.advance, Tia.draw_hcount, if_pos h]
  exact Tia.endOfLine_lineEnds (t := { t.draw p with
    hcount := t.hcount + 1
    motion := { (t.draw p).motion with ext := (t.draw p).motion.ext && decide (t.hcount + 1 ≠ 76) } }) hraster p

/-- Settles O54: the row after a drawing, and the line that the tick at 227 ends with that row. -/
theorem tickWritesItsColumn : Obligations.TickWritesItsColumn := by
  intro p t hwf hlt u pixel Written
  have hdrawn (h : 68 ≤ t.hcount) : Written (t.draw p).line := by
    rw [Tia.draw_line, if_pos h, Tia.pixel_of_visible h]
    refine ⟨Memory.wf_write _ _ hwf, fun x => ?_⟩
    by_cases hx : x = t.hcount - 68
    · rw [if_pos hx, hx]
      exact Memory.read_write_self _ _ hwf
    · rw [if_neg hx]
      exact Memory.read_write_of_ne _ _ hx
  have hline (h : t.hcount < 227) : u.line = (t.draw p).line := by
    rw [Tia.tick_line, if_neg (by omega)]
  refine ⟨fun h => ?_, fun h h' => ?_, fun h => ?_, fun h hraster =>
    ⟨(t.draw p).line, hdrawn (by omega), Tia.tick_lineEnds (by omega) hraster p⟩⟩
  · rw [hline (by omega), Tia.draw_line, if_neg (by omega)]
  · rw [hline h']
    exact hdrawn h
  · have hin : ¬ 228 ≤ t.hcount + 1 := by omega
    have hin' : ¬(228 ≤ t.hcount + 1 ∧ (t.vcount + 1) % 262 = 0) := fun hc => hin hc.1
    exact ⟨by rw [Tia.tick_hcount, if_neg hin], by rw [Tia.tick_vcount, if_neg hin],
      by rw [Tia.tick_waiting, if_neg hin], by rw [Tia.tick_raster, if_neg hin], by rw [Tia.tick_frames, if_neg hin']⟩

/-! Drawables and collisions (R362 to R366, R390). -/

/-- The column of a player is the one its counter gives. -/
theorem exists_column_iff {s wd : Nat} (h : s + wd ≤ 160) (c : Nat) (Q : Nat → Prop) :
    (∃ d : Nat, (d : Int) = ((c : Int) - s - wd) % 160 ∧ Q d) ↔ Q (columnOffset c (s + wd)) := by
  have hcol : (columnOffset c (s + wd) : Int) = ((c : Int) - s - wd) % 160 := by
    rw [columnOffset_cast h]
    congr 1
    omega
  refine ⟨fun ⟨d, hd, hq⟩ => ?_, fun hq => ⟨_, hcol, hq⟩⟩
  rw [← hcol, Int.natCast_inj] at hd
  rwa [← hd]

theorem playerActive_iff (p : Params) (c : Nat) (nusiz shape refp : Byte) :
    playerActive p c nusiz shape refp = true ↔ Claims.PlayerDrawn p c nusiz shape refp := by
  unfold playerActive Claims.PlayerDrawn
  rw [← copyOffsets_eq, ← playerScale_eq, List.any_eq_true]
  refine exists_congr fun s => and_congr_right fun hs => ?_
  have hle := copyOffsets_le hs
  generalize hwd : (if 1 < playerScale nusiz ∧ p.widePlayerDelay = true then 1 else 0) = wd
  have hcast : (if 1 < playerScale nusiz ∧ p.widePlayerDelay = true then (1 : Int) else 0) = wd := by
    rw [← hwd]
    split <;> rfl
  have hwd1 : wd ≤ 1 := by
    rw [← hwd]
    split <;> decide
  rw [hcast, exists_column_iff (by omega)]
  dsimp only
  rw [Bool.and_eq_true, decide_eq_true_eq, ← apply_ite (bitAt shape)]
  exact Iff.rfl

theorem missileActive_iff (c : Nat) (nusiz enam resmp : Byte) :
    missileActive c nusiz enam resmp = true ↔ Claims.MissileDrawn c nusiz enam resmp := by
  have hcol (s : Nat) (hs : s ∈ copyOffsets nusiz) :
      columnOffset c s < objectWidth nusiz ↔ ((c : Int) - s) % 160 < 2 ^ (nusiz.toNat / 16 % 4) := by
    have := copyOffsets_le hs
    rw [← columnOffset_cast (by omega), objectWidth]
    exact_mod_cast Iff.rfl
  simp only [missileActive, Claims.MissileDrawn, bitAt, Bool.and_eq_true, Bool.not_eq_true', List.any_eq_true,
    decide_eq_true_eq, ← copyOffsets_eq, and_assoc]
  exact and_congr_right fun _ => and_congr_right fun _ => exists_congr fun s => and_congr_right (hcol s)

theorem ballActive_iff (c : Nat) (enable ctrlpf : Byte) :
    ballActive c enable ctrlpf = true ↔ Claims.BallDrawn c enable ctrlpf := by
  simp only [ballActive, Claims.BallDrawn, Bool.and_eq_true, decide_eq_true_eq]
  rfl

theorem Tia.detects_eq (p : Params) (t : Tia) :
    t.detects p = (decide (68 ≤ t.hcount) && !(t.motion.ext && decide (t.hcount < 76))
      && !(p.vblankGatesCollisions && t.regs.vblank.getLsbD 1)) := rfl

/-- Each latch after a tick: set where the tick detects and both its drawables are active (R390). -/
theorem Tia.tick_cx_eq (p : Params) (t : Tia) :
    let a := activeSet p t.regs t.pos t.latchedPf
    let on := t.detects p
    (t.tick p).cx = {
      m0p1 := t.cx.m0p1 || on && a.m0 && a.p1
      m0p0 := t.cx.m0p0 || on && a.m0 && a.p0
      m1p0 := t.cx.m1p0 || on && a.m1 && a.p0
      m1p1 := t.cx.m1p1 || on && a.m1 && a.p1
      p0pf := t.cx.p0pf || on && a.p0 && a.pf
      p0bl := t.cx.p0bl || on && a.p0 && a.bl
      p1pf := t.cx.p1pf || on && a.p1 && a.pf
      p1bl := t.cx.p1bl || on && a.p1 && a.bl
      m0pf := t.cx.m0pf || on && a.m0 && a.pf
      m0bl := t.cx.m0bl || on && a.m0 && a.bl
      m1pf := t.cx.m1pf || on && a.m1 && a.pf
      m1bl := t.cx.m1bl || on && a.m1 && a.bl
      blpf := t.cx.blpf || on && a.bl && a.pf
      p0p1 := t.cx.p0p1 || on && a.p0 && a.p1
      m0m1 := t.cx.m0m1 || on && a.m0 && a.m1 } := by
  rw [Tia.tick_cx]
  cases t.detects p with
  | true => rfl
  | false => simp

/-- Settles O55: the latches of `tick_cx_eq`, and what makes each drawable active. -/
theorem ticksSetCollisionLatches : Obligations.TicksSetCollisionLatches := by
  intro p t r a on c
  have hcx : c = _ := Tia.tick_cx_eq p t
  rw [Tia.detects_eq] at hcx
  rw [hcx]
  exact ⟨rfl, rfl, rfl, rfl, rfl, rfl, rfl, rfl, rfl, rfl, rfl, rfl, rfl, rfl, rfl, playerActive_iff .., playerActive_iff ..,
    missileActive_iff .., missileActive_iff .., ballActive_iff .., rfl⟩

end Sys2Proof.Machine

/-! Device reads and writes (60_exceptions.md R320 to R331, R342, R386, R387), and the timer (R325, R327). -/

namespace Sys2Proof.Machine

theorem busRead_of_isTia {a : Word} (h : isTia a = true) (s : State) :
    busRead a s =
      (s.tia.value s.inputs (Config.undriven s.draws) (busOffset 4 a), { s with draws := s.draws + 1 }) := by
  have hd : deviceAt (busAddr a) = .tia := by simpa [isTia] using h
  simp only [busRead, hd]

theorem busRead_of_isRiot {a : Word} (h : isRiot a = true) (s : State) :
    busRead a s =
      (s.riot.value s.inputs (riotReadReg (busOffset 5 a)),
        { s with riot := s.riot.afterRead s.params (riotReadReg (busOffset 5 a)) }) := by
  have hd : deviceAt (busAddr a) = .riot := by simpa [isRiot] using h
  simp only [busRead, hd]

theorem busWrite_of_isRiot {a : Word} (h : isRiot a = true) (v : Byte) (s : State) :
    busWrite a v s = { s with riot := s.riot.write (riotWriteReg (busOffset 5 a)) v } := by
  have hd : deviceAt (busAddr a) = .riot := by simpa [isRiot] using h
  simp only [busWrite, hd]

/-! A byte by its driven bits (R342). -/

/-- Bits 7 and 6 of `v` are those given, its others those of `noise`. -/
structure Drives (v noise : Byte) (b7 b6 : Bool) : Prop where
  bit7 : v.getLsbD 7 = b7
  bit6 : v.getLsbD 6 = b6
  low : ∀ k, k < 6 → v.getLsbD k = noise.getLsbD k

theorem drives_drive2 (x y : Bool) (noise : Byte) : Drives (drive2 x y noise) noise x y :=
  ⟨drive2_bit7 x y noise, drive2_bit6 x y noise, fun _ => drive2_low x y noise⟩

theorem drives_drive1 (x : Bool) (noise : Byte) : Drives (drive1 x noise) noise x (noise.getLsbD 6) :=
  ⟨drive1_bit7 x noise, drive1_low x noise (by decide), fun _ hk => drive1_low x noise (by omega)⟩

theorem drives_self (noise : Byte) : Drives noise noise (noise.getLsbD 7) (noise.getLsbD 6) := ⟨rfl, rfl, fun _ _ => rfl⟩

/-- What bit 7 of a TIA read is, by the offset (R342, R386, R387); at $0E and $0F it is not driven. -/
def Tia.drivenBit7 (i : Inputs) (t : Tia) : List Bool :=
  let dump := t.regs.vblank.getLsbD 7
  let latched := t.regs.vblank.getLsbD 6
  [t.cx.m0p1, t.cx.m1p0, t.cx.p0pf, t.cx.p1pf, t.cx.m0pf, t.cx.m1pf, t.cx.blpf, t.cx.p0p1,
    i.pad0 && !dump, i.pad1 && !dump, i.pad2 && !dump, i.pad3 && !dump,
    if latched then t.latch4 else i.fire0, if latched then t.latch5 else i.fire1]

/-- What bit 6 of a TIA read is, by the offset (R342); it is not driven at CXBLPF and from $08 on. -/
def Tia.drivenBit6 (t : Tia) (noise : Byte) : List Bool :=
  [t.cx.m0p0, t.cx.m1p1, t.cx.p0bl, t.cx.p1bl, t.cx.m0bl, t.cx.m1bl, noise.getLsbD 6, t.cx.m0m1]

theorem Tia.drives_value (i : Inputs) (t : Tia) (noise : Byte) (o : BitVec 4) :
    Drives (t.value i noise o) noise ((t.drivenBit7 i).getD o.toNat (noise.getLsbD 7))
      ((t.drivenBit6 noise).getD o.toNat (noise.getLsbD 6)) := by
  unfold Tia.value
  have ho := o.isLt
  generalize o.toNat = k at ho
  match k, ho with
  | 0, _ | 1, _ | 2, _ | 3, _ | 4, _ | 5, _ | 7, _ => exact drives_drive2 _ _ _
  | 6, _ | 8, _ | 9, _ | 10, _ | 11, _ | 12, _ | 13, _ => exact drives_drive1 _ _
  | 14, _ | 15, _ => exact drives_self _
  | k + 16, hk => omega

/-- Settles O57: the byte read by its driven bits, at the offset's 16 values. -/
theorem tiaReadsDriveBitsSevenAndSix : Obligations.TiaReadsDriveBitsSevenAndSix := by
  intro a s ha o noise cx dump latched bit7 bit6
  obtain ⟨h7, h6, hlow⟩ := s.tia.drives_value s.inputs noise (busOffset 4 a)
  rw [busOffset_toNat] at h7 h6
  rw [busRead_of_isTia ha]
  exact ⟨rfl, h7, h6, hlow⟩

/-! The RIOT's registers (R320). -/

/-- The read register by the lines A2 to A0. -/
theorem riotReadReg_eq : ∀ o : BitVec 5,
    riotReadReg o =
      if o.toNat % 8 = 0 then .swcha else if o.toNat % 8 = 1 then .swacnt else if o.toNat % 8 = 2 then .swchb
      else if o.toNat % 8 = 3 then .swbcnt else if o.toNat % 8 = 4 ∨ o.toNat % 8 = 6 then .intim else .timint := by
  decide

theorem riotReadReg_eq_intim_iff : ∀ o : BitVec 5, riotReadReg o = .intim ↔ o.toNat % 8 = 4 ∨ o.toNat % 8 = 6 := by
  decide

theorem Riot.afterRead_eq (p : Params) (r : Riot) (reg : RiotReadReg) :
    r.afterRead p reg =
      if reg = .intim then { r with flag := false, fast := if p.timerReadRestoresDivisor then false else r.fast }
      else r := by
  cases reg <;> rfl

/-- The write register by the lines A4 and A2 to A0. -/
theorem riotWriteReg_eq : ∀ o : BitVec 5,
    riotWriteReg o =
      if o.toNat % 8 = 0 then .portA else if o.toNat % 8 = 1 then .swacnt else if o.toNat % 8 = 2 then .portB
      else if o.toNat % 8 = 3 then .swbcnt
      else if 16 ≤ o.toNat then
        .timer (if o.toNat % 4 = 0 then .by1 else if o.toNat % 4 = 1 then .by8 else if o.toNat % 4 = 2 then .by64
          else .by1024)
      else .edgeControl := by
  decide

/-- Settles O58, by the register that the lines select. -/
theorem riotReadsReturnTheSelectedRegister : Obligations.RiotReadsReturnTheSelectedRegister := by
  intro a s ha o r intim
  have ho : (busOffset 5 a).toNat % 8 = o := by
    rw [busOffset_toNat]
    omega
  have hintim : riotReadReg (busOffset 5 a) = .intim ↔ intim := by rw [riotReadReg_eq_intim_iff, ho]
  rw [busRead_of_isRiot ha, Riot.afterRead_eq, if_congr hintim rfl rfl, riotReadReg_eq, ho]
  simp only [apply_ite (s.riot.value s.inputs)]
  rfl

/-- Settles O59, by the register that the lines select. -/
theorem riotWritesLoadTheSelectedRegister : Obligations.RiotWritesLoadTheSelectedRegister := by
  intro a v s ha o r divisor
  have ho : (busOffset 5 a).toNat = o := busOffset_toNat 5 a
  rw [busWrite_of_isRiot ha, riotWriteReg_eq, ho]
  simp only [apply_ite (fun reg => s.riot.write reg v)]
  rfl

/-! The timer (R325, R327). -/

/-- A timer that counts down: the flag and the fast mode are clear, and the count reaches 0 and the prescaler 1 after
`left` more ticks. -/
structure Riot.Counting (r : Riot) (left : Nat) : Prop where
  flag : r.flag = false
  fast : r.fast = false
  pre_pos : 1 ≤ r.pre
  pre_le : r.pre ≤ r.div.toNat
  left_eq : r.count.toNat * r.div.toNat + (r.pre - 1) = left

/-- A timer that has passed 0 and counts down every tick. -/
structure Riot.Expired (r : Riot) (count : Byte) : Prop where
  flag : r.flag = true
  fast : r.fast = true
  pre : r.pre = 1
  count : r.count = count

theorem Riot.Counting.tick {r : Riot} {left : Nat} (h : r.Counting (left + 1)) : r.tick.Counting left := by
  obtain ⟨hflag, hfast, hpos, hle, hleft⟩ := h
  by_cases hpre : r.pre ≤ 1
  · have hcount : r.count.toNat ≠ 0 := by
      intro hz
      rw [hz] at hleft
      omega
    have hne : (r.count == 0) = false := by
      rw [beq_eq_false_iff_ne]
      exact fun hz => hcount (by rw [hz]; rfl)
    have htick : r.tick = { r with count := r.count - 1, pre := r.div.toNat } := by
      rw [Riot.tick, if_pos hpre, hne, hflag, hfast]
      rfl
    rw [htick]
    refine ⟨hflag, hfast, r.div.toNat_pos, Nat.le_refl _, ?_⟩
    have hsub : (r.count - 1).toNat = r.count.toNat - 1 := by bv_omega
    change (r.count - 1).toNat * r.div.toNat + (r.div.toNat - 1) = left
    have hmul : r.count.toNat * r.div.toNat = (r.count.toNat - 1) * r.div.toNat + r.div.toNat := by
      rw [← Nat.succ_mul, Nat.succ_eq_add_one, Nat.sub_add_cancel (by omega)]
    have := r.div.toNat_pos
    rw [hsub]
    omega
  · rw [Riot.tick_of_lt (by omega)]
    exact ⟨hflag, hfast, by change 1 ≤ r.pre - 1; omega, by change r.pre - 1 ≤ r.div.toNat; omega,
      by change r.count.toNat * r.div.toNat + (r.pre - 1 - 1) = left; omega⟩

theorem Riot.Counting.tick_expires {r : Riot} (h : r.Counting 0) : r.tick.Expired 0xFF := by
  obtain ⟨hflag, hfast, hpos, -, hleft⟩ := h
  have hcount : r.count = 0 := by
    have := r.div.toNat_pos
    have hz : r.count.toNat * r.div.toNat = 0 := by omega
    obtain hz | hz := Nat.mul_eq_zero.1 hz
    · exact BitVec.eq_of_toNat_eq hz
    · omega
  rw [Riot.tick, if_pos (by omega), hcount]
  exact ⟨by simp, by simp, by simp, rfl⟩

theorem Riot.Expired.tick {r : Riot} {count : Byte} (h : r.Expired count) : r.tick.Expired (count - 1) := by
  obtain ⟨hflag, hfast, hpre, rfl⟩ := h
  rw [Riot.tick, if_pos (by omega), hflag, hfast]
  exact ⟨rfl, rfl, rfl, rfl⟩

section TimerWrite

variable (r : Riot) (d : Divisor) (n : Byte)

/-- The timer `j` ticks after a write of `n` with divisor `d`. -/
def Riot.timerAfter (j : Nat) : Riot := Nat.iterate Riot.tick j (r.write (.timer d) n)

theorem Riot.timerAfter_succ (j : Nat) : r.timerAfter d n (j + 1) = (r.timerAfter d n j).tick :=
  Function.iterate_succ_apply' ..

theorem Riot.timerAfter_div (j : Nat) : (r.timerAfter d n j).div = d := by
  induction j with
  | zero => rfl
  | succ j ih => rw [Riot.timerAfter_succ, Riot.tick_div, ih]

theorem Riot.timerAfter_counting {j : Nat} (h : j ≤ n.toNat * d.toNat) :
    (r.timerAfter d n j).Counting (n.toNat * d.toNat - j) := by
  induction j with
  | zero => exact ⟨rfl, rfl, Nat.le_refl 1, d.toNat_pos, rfl⟩
  | succ j ih =>
    rw [Riot.timerAfter_succ]
    have hleft : n.toNat * d.toNat - j = n.toNat * d.toNat - (j + 1) + 1 := by omega
    exact (hleft ▸ ih (by omega)).tick

theorem Riot.timerAfter_expired (k : Nat) :
    (r.timerAfter d n (n.toNat * d.toNat + 1 + k)).Expired (BitVec.ofInt 8 (255 - (k : Int))) := by
  induction k with
  | zero =>
    have hlast := r.timerAfter_counting d n (Nat.le_refl _)
    rw [Nat.sub_self] at hlast
    rw [Nat.add_zero, Riot.timerAfter_succ]
    exact hlast.tick_expires
  | succ k ih =>
    have hstep : BitVec.ofInt 8 (255 - ((k + 1 : Nat) : Int)) = BitVec.ofInt 8 (255 - (k : Int)) - 1 := by
      apply BitVec.eq_of_toNat_eq
      rw [BitVec.toNat_sub, BitVec.toNat_ofInt, BitVec.toNat_ofInt, show (1 : Byte).toNat = 1 from rfl]
      omega
    rw [← Nat.add_assoc, Riot.timerAfter_succ, hstep]
    exact ih.tick

end TimerWrite

/-- The count from the ticks that are left. -/
theorem count_of_left {count n pre j : Nat} (d : Divisor) (hpos : 1 ≤ pre) (hle : pre ≤ d.toNat) (hj : 1 ≤ j)
    (hjn : j ≤ n * d.toNat) (hleft : count * d.toNat + (pre - 1) = n * d.toNat - j) :
    count = n - 1 - (j - 1) / d.toNat := by
  cases d <;> simp only [Divisor.toNat] at * <;> omega

/-- Settles O60: the timer counts down for N * d ticks, then it has expired and runs from $FF. -/
theorem timerUnderflowsAfterNTimesD : Obligations.TimerUnderflowsAfterNTimesD := by
  intro r d n j u nd
  by_cases h : nd < j
  · have hexpired := r.timerAfter_expired d n (j - nd - 1)
    rw [show n.toNat * d.toNat + 1 + (j - nd - 1) = j by omega] at hexpired
    obtain ⟨hflag, -, -, hcount⟩ : u.Expired _ := hexpired
    refine ⟨by rw [hflag, decide_eq_true h], fun _ hj => absurd h (by omega), fun _ => ?_, fun i => ?_⟩
    · rw [hcount]
      congr 2
      omega
    · rw [Riot.value, if_pos hflag, if_pos h]
  · have hcounting := r.timerAfter_counting d n (Nat.le_of_not_lt h)
    obtain ⟨hflag, -, hpos, hle, hleft⟩ : u.Counting (nd - j) := hcounting
    have hdiv : u.div = d := r.timerAfter_div d n j
    rw [hdiv] at hle hleft
    refine ⟨by rw [hflag, decide_eq_false h], fun hj hjn => count_of_left d hpos hle hj hjn hleft,
      fun hlt => absurd hlt h, fun i => ?_⟩
    rw [Riot.value, if_neg (by simp [hflag]), if_neg h]

end Sys2Proof.Machine

/-! The host reset (70_reset_and_hazards.md R430 to R434). -/

namespace Sys2Proof.Machine

/-- Mapper `none` has one bank, which is its reset bank (20_memory.md R71). -/
theorem Cart.atResetBank_of_plain {c : Cart} (h : c.mapper = .none) (draw : Nat) : (c.atResetBank draw).bank = 0 := by
  simp [Cart.atResetBank, Cart.record, h, mapperOf, plainMapper]

/-- Settles O9: the step is the reset of R430, whose vector is read at the reset bank. -/
theorem hostResetReinitialises : Obligations.HostResetReinitialises := by
  intro s rest hvalid hhost
  refine ⟨hostReset { s with host := rest }, ?_, ?_, rfl, rfl, rfl, rfl, rfl, rfl,
    fun hplain => Cart.atResetBank_of_plain hplain _, rfl, rfl, rfl, rfl⟩
  · rw [step_of_reset hhost]
    exact takeReset_of_valid hvalid
  · rw [hostReset_cpu, Cart.resetVector, mkWord_eq_word]
    rfl

end Sys2Proof.Machine

/-! How long an instruction takes (70_reset_and_hazards.md R460, R461): one CPU cycle for each access, none of them held while
the wait latch is clear, which only a store to WSYNC sets (60_exceptions.md R346). -/

namespace Sys2Proof.Machine

/-- An address whose store does not strobe WSYNC. -/
def MissesWsync (a : Word) : Prop := ¬(isTia a = true ∧ a.toNat % 64 = 2)

/-- WSYNC stands at $02 alone. -/
theorem tiaRegAt_eq_wsync : ∀ o : BitVec 6, tiaRegAt o = some .wsync → o.toNat = 2 := by decide

theorem Tia.write_waiting_of_ne {o : BitVec 6} (h : o.toNat ≠ 2) (p : Params) (t : Tia) (v : Byte) :
    (t.write p o v).waiting = t.waiting := by
  obtain hw | ⟨reg, hreg, hw⟩ := t.write_cases p o v <;> rw [hw]
  have hne : reg ≠ .wsync := by
    rintro rfl
    exact h (tiaRegAt_eq_wsync o hreg)
  simp [Tia.writeReg_eq, hne]

/-- Nothing but a strobe of WSYNC sets the wait latch. -/
theorem waiting_keptByCycles : KeptByCycles MissesWsync (fun s => s.tia.waiting = false) := by
  refine .of_tia (P := fun t => t.waiting = false) (fun p t h => ?_) (fun a v p t ha htia h => ?_) (fun _ _ _ => rfl)
    (fun _ _ _ h => h)
  · refine Tia.tick3_induct (P := fun t => t.waiting = false) (fun t h => ?_) h
    rw [Tia.tick_waiting, h, ite_self]
  · rw [Tia.write_waiting_of_ne (fun ho => ha ⟨htia, (busOffset_toNat 6 a).symm.trans ho⟩)]
    exact h

/-- `n` cycles after `s`, none of them held, the machine is in `t` with the wait latch clear. -/
structure Unheld (s : State) (n : Nat) (t : State) : Prop where
  clear : t.tia.waiting = false
  cycles : t.cycles = s.cycles + n

/-- The result is a next state, `n` cycles after `s`. -/
def CompletesIn (s : State) (r : Result) (n : Nat) : Prop := ∃ t, r = .next t ∧ t.cycles = s.cycles + n

theorem CompletesIn.next {s t : State} {n : Nat} (h : t.cycles = s.cycles + n) : CompletesIn s (.next t) n := ⟨t, rfl, h⟩

/-- The cycles in which a memory operand's address is formed, but for the fix-up of an indexed one (40_load_store.md R136 to
R141). -/
def Addr.formCycles : Addr → Nat
  | .zp _ | .abs _ | .absx _ | .absy _ => 0
  | .zpx _ | .zpy _ => 1
  | .indy _ => 2
  | .indx _ => 3

/-- The fix-up cycle of an indexed address: the read class makes it on a page crossing, the others always (R142). -/
def Addr.fixupCycles (always : Bool) (m : Addr) (s : State) : Nat :=
  match m with
  | .absx w => oneIf (always || crossesPage w s.cpu.x)
  | .absy w => oneIf (always || crossesPage w s.cpu.y)
  | .indy b => oneIf (always || crossesPage (zpPointer b s).1 s.cpu.y)
  | .zp _ | .zpx _ | .zpy _ | .abs _ | .indx _ => 0

namespace Unheld

variable {s t : State} {n : Nat}

theorem refl (h : s.tia.waiting = false) : Unheld s 0 s := ⟨h, rfl⟩

variable (h : Unheld s n t)
include h

theorem mapCpu (f : Cpu → Cpu) : Unheld s n (t.mapCpu f) := ⟨h.clear, h.cycles⟩

theorem setPc (a : Word) : Unheld s n (t.setPc a) := ⟨h.clear, h.cycles⟩

theorem readCycle (a : Word) : Unheld s (n + 1) (readCycle a t).2 where
  clear := waiting_keptByCycles.readCycle a h.clear
  cycles := by rw [Machine.readCycle, hold_of_not_waiting h.clear, ticks_cycles, busRead_cycles, h.cycles, Nat.add_assoc]

theorem dummyRead (a : Word) : Unheld s (n + 1) (dummyRead a t) := h.readCycle a

theorem fetchByte : Unheld s (n + 1) (fetchByte t).2 := (h.readCycle t.cpu.pc).mapCpu fun c => { c with pc := c.pc + 1 }

/-- A write is not held, whatever it strobes. -/
theorem cycles_writeCycle (a : Word) (v : Byte) : (writeCycle a v t).cycles = s.cycles + (n + 1) := by
  rw [writeCycle_cycles, h.cycles, Nat.add_assoc]

theorem writeCycle {a : Word} (ha : MissesWsync a) (v : Byte) : Unheld s (n + 1) (writeCycle a v t) :=
  ⟨waiting_keptByCycles.write a v t ha h.clear, h.cycles_writeCycle a v⟩

theorem zpPointer (b : Byte) : Unheld s (n + 2) (zpPointer b t).2 := (h.readCycle _).readCycle _

theorem indexCycles (always : Bool) (base : Word) (idx : Byte) :
    Unheld s (n + oneIf (always || crossesPage base idx)) (indexCycles always base idx t).2 := by
  unfold Machine.indexCycles
  cases always || crossesPage base idx with
  | false => exact h
  | true => exact h.dummyRead _

theorem effAddr (always : Bool) (m : Addr) :
    Unheld s (n + m.formCycles + m.fixupCycles always t) (effAddr always m t).2 := by
  cases m with
  | zp | abs => exact h
  | zpx | zpy => exact h.dummyRead _
  | absx w | absy w => exact h.indexCycles always w _
  | indx b => exact (h.dummyRead _).zpPointer _
  | indy b => exact (h.zpPointer b).indexCycles always _ _

/-! The classes of instructions. -/

theorem immClass {f : Byte → Cpu → Cpu} {v : Byte} : CompletesIn s (immClass f v t) n := .next h.cycles

theorem readClass {f : Byte → Cpu → Cpu} {m : Addr} :
    CompletesIn s (readClass f m t) (n + m.formCycles + 1 + m.fixupCycles false t) := by
  have hread := ((h.effAddr false m).readCycle (Machine.effAddr false m t).1).cycles
  exact .next (hread.trans (by omega))

theorem writeClass {f : Cpu → Byte} {m : Addr} :
    CompletesIn s (writeClass f m t) (n + m.formCycles + m.fixupCycles true t + 1) :=
  .next ((h.effAddr true m).cycles_writeCycle _ _)

/-- The second write is not held, though the first may strobe WSYNC (R143). -/
theorem rmwClass {f : Flags → Byte → Byte × Flags} {m : Addr} :
    CompletesIn s (rmwClass f m t) (n + m.formCycles + m.fixupCycles true t + 3) := by
  have hread := (h.effAddr true m).readCycle (Machine.effAddr true m t).1
  refine .next ?_
  rw [State.mapCpu_cycles, modifyOperand, writeCycle_cycles, hread.cycles_writeCycle]
  rfl

theorem impliedClass {f : Cpu → Cpu} : CompletesIn s (impliedClass f t) (n + 1) := .next (h.dummyRead _).cycles

theorem accClass {f : Flags → Byte → Byte × Flags} : CompletesIn s (accClass f t) (n + 1) := h.impliedClass

theorem branchIf {taken : Bool} {offset : Byte} :
    CompletesIn s (branchIf taken offset t) (n + branchCycles taken offset t) := by
  unfold Machine.branchIf branchCycles
  cases taken with
  | false => exact .next h.cycles
  | true =>
    refine .next ?_
    rw [State.setPc_cycles, bne]
    cases hiByte (t.cpu.pc + signExtendByte offset) == hiByte t.cpu.pc with
    | false => exact ((h.dummyRead _).dummyRead _).cycles
    | true => exact (h.dummyRead _).cycles

/-! The control transfers and the stack. -/

theorem jmpInd {w : Word} : CompletesIn s (execJmpInd w t) (n + 2) := .next ((h.readCycle _).readCycle _).cycles

theorem jsr {w : Word} (hw : ∀ a ∈ stores (.jsr w) t, MissesWsync a) : CompletesIn s (execJsr w t) (n + 4) := by
  have hhigh : MissesWsync (stackAddr t.cpu.s) := hw _ (.head _)
  have hlow : MissesWsync (stackAddr (t.cpu.s - 1)) := hw _ (.tail _ (.head _))
  rw [execJsr_eq]
  exact .next ((((h.dummyRead _).writeCycle hhigh _).writeCycle hlow _).dummyRead _).cycles

theorem rts : CompletesIn s (execRts t) (n + 5) := by
  rw [execRts_eq]
  exact .next (((((h.dummyRead _).dummyRead _).readCycle _).readCycle _).dummyRead _).cycles

theorem brk {b : Byte} (hw : ∀ a ∈ stores (.brk b) t, MissesWsync a) : CompletesIn s (execBrk b t) (n + 5) := by
  have hhigh : MissesWsync (stackAddr t.cpu.s) := hw _ (.head _)
  have hlow : MissesWsync (stackAddr (t.cpu.s - 1)) := hw _ (.tail _ (.head _))
  have hflags : MissesWsync (stackAddr (t.cpu.s - 2)) := hw _ (.tail _ (.tail _ (.head _)))
  rw [execBrk, takeTrap_eq]
  exact .next
    ((((((h.writeCycle hhigh _).writeCycle hlow _).writeCycle hflags _).readCycle _).readCycle _).mapCpu _).cycles

theorem rti : CompletesIn s (execRti t) (n + 5) := by
  rw [execRti, returnFromTrap_eq]
  exact .next (((((h.dummyRead _).dummyRead _).readCycle _).readCycle _).readCycle _).cycles

/-- PHA and PHP end with their push, so that what it strobes holds none of their cycles. -/
theorem push {v : Byte} : CompletesIn s (.next (pushCycle v (Machine.dummyRead t.cpu.pc t))) (n + 2) :=
  .next ((h.dummyRead _).cycles_writeCycle _ _)

theorem cycles_pullByte : (pullByte t).2.cycles = s.cycles + (n + 3) := by
  rw [pullByte_eq]
  exact (((h.dummyRead _).dummyRead _).readCycle _).cycles

end Unheld

/-- The fetch cycles of an instruction: one for each of its bytes, but JSR's last, which it reads after its pushes
(40_load_store.md R132, 43_control_transfer.md R250). -/
def fetchCycles : Instr → Nat
  | .jsr _ => 2
  | i => (encode i).length

end Sys2Proof.Machine

namespace Sys2Proof

/-- The fetch cycles of the instructions a shape gives. -/
def Shape.fetchCycles : Shape → Nat
  | .bare _ => 1
  | .byte _ | .call _ => 2
  | .word _ => 3

/-- Row by row, the instructions of a shape are fetched in its cycles. -/
theorem opcodeTable_fetchCycles : ∀ r ∈ opcodeTable, ∀ i, r.2.Gives i → Machine.fetchCycles i = r.2.fetchCycles := by
  simp only [opcodeTable, loadStoreOpcodes, transferOpcodes, arithLogicOpcodes, shiftIncDecOpcodes, controlOpcodes,
    stackFlagOpcodes, List.cons_append, List.nil_append, List.forall_mem_cons, List.not_mem_nil,
    false_implies, implies_true, and_true]
  repeat' apply And.intro
  all_goals
    rintro i ⟨⟩
    rfl

theorem Shape.Gives.fetchCycles_eq {op : Byte} {i : Instr} (h : (shapeOf op).Gives i) :
    Machine.fetchCycles i = (shapeOf op).fetchCycles := by
  revert h
  unfold shapeOf
  split
  · next sh hsh => exact opcodeTable_fetchCycles _ (lookupShape_mem hsh) i
  · rintro ⟨⟩
    rfl

end Sys2Proof

namespace Sys2Proof.Machine

/-- With the wait latch clear the fetch is the run of its cycles. -/
theorem fetchInstr_unheld {s : State} (h : s.tia.waiting = false) :
    Unheld s (fetchCycles (fetchInstr s).1) (fetchInstr s).2 := by
  have hop : Unheld s 1 (fetchByte s).2 := (Unheld.refl h).fetchByte
  have hgives {i : Instr} := @Shape.Gives.fetchCycles_eq (fetchByte s).1 i
  cases hsh : shapeOf (fetchByte s).1 <;> rw [hsh] at hgives <;> simp only [fetchInstr, hsh]
  case bare i =>
    rw [hgives (.bare i)]
    exact hop
  case byte f =>
    rw [hgives (.byte f _)]
    exact hop.fetchByte
  case word f =>
    rw [hgives (.word f _)]
    exact hop.fetchByte.fetchByte
  case call f =>
    rw [hgives (.call f _)]
    exact hop.fetchByte

/-- Every documented instruction completes in its cycles, by the class of its operation; the fetch cycles come before. -/
theorem exec_completesIn {s u : State} (i : Instr) (h : Unheld s (fetchCycles i) u) (hdoc : mnemonic i ≠ .unimpl)
    (hpush : mnemonic i = .jsr ∨ mnemonic i = .brk → ∀ a ∈ stores i u, MissesWsync a) :
    CompletesIn s (exec i u) (baseCycles i + extraCycles i u) :=
  match i with
  | .ldaImm _ | .ldxImm _ | .ldyImm _ | .adcImm _ | .sbcImm _ | .andImm _ | .oraImm _ | .eorImm _ | .cmpImm _
    | .cpxImm _ | .cpyImm _ => h.immClass
  | .ldaZp _ | .ldaZpx _ | .ldaAbs _ | .ldaAbsx _ | .ldaAbsy _ | .ldaIndx _ | .ldaIndy _
    | .ldxZp _ | .ldxZpy _ | .ldxAbs _ | .ldxAbsy _ | .ldyZp _ | .ldyZpx _ | .ldyAbs _ | .ldyAbsx _
    | .adcZp _ | .adcZpx _ | .adcAbs _ | .adcAbsx _ | .adcAbsy _ | .adcIndx _ | .adcIndy _
    | .sbcZp _ | .sbcZpx _ | .sbcAbs _ | .sbcAbsx _ | .sbcAbsy _ | .sbcIndx _ | .sbcIndy _
    | .andZp _ | .andZpx _ | .andAbs _ | .andAbsx _ | .andAbsy _ | .andIndx _ | .andIndy _
    | .oraZp _ | .oraZpx _ | .oraAbs _ | .oraAbsx _ | .oraAbsy _ | .oraIndx _ | .oraIndy _
    | .eorZp _ | .eorZpx _ | .eorAbs _ | .eorAbsx _ | .eorAbsy _ | .eorIndx _ | .eorIndy _
    | .cmpZp _ | .cmpZpx _ | .cmpAbs _ | .cmpAbsx _ | .cmpAbsy _ | .cmpIndx _ | .cmpIndy _
    | .cpxZp _ | .cpxAbs _ | .cpyZp _ | .cpyAbs _ | .bitZp _ | .bitAbs _ => h.readClass
  | .staZp _ | .staZpx _ | .staAbs _ | .staAbsx _ | .staAbsy _ | .staIndx _ | .staIndy _
    | .stxZp _ | .stxZpy _ | .stxAbs _ | .styZp _ | .styZpx _ | .styAbs _ => h.writeClass
  | .aslZp _ | .aslZpx _ | .aslAbs _ | .aslAbsx _ | .lsrZp _ | .lsrZpx _ | .lsrAbs _ | .lsrAbsx _
    | .rolZp _ | .rolZpx _ | .rolAbs _ | .rolAbsx _ | .rorZp _ | .rorZpx _ | .rorAbs _ | .rorAbsx _
    | .incZp _ | .incZpx _ | .incAbs _ | .incAbsx _ | .decZp _ | .decZpx _ | .decAbs _ | .decAbsx _ => h.rmwClass
  | .aslAcc | .lsrAcc | .rolAcc | .rorAcc => h.accClass
  | .tax | .tay | .txa | .tya | .tsx | .txs | .inx | .iny | .dex | .dey
    | .clc | .sec | .cli | .sei | .cld | .sed | .clv | .nop => h.impliedClass
  | .bpl _ | .bmi _ | .bvc _ | .bvs _ | .bcc _ | .bcs _ | .bne _ | .beq _ => h.branchIf
  | .jmpAbs w => .next (h.setPc w).cycles
  | .jmpInd _ => h.jmpInd
  | .jsr _ => h.jsr (hpush (.inl rfl))
  | .rts => h.rts
  | .brk _ => h.brk (hpush (.inr rfl))
  | .rti => h.rti
  | .pha | .php => h.push
  | .pla | .plp => .next h.cycles_pullByte
  | .unimpl _ => absurd rfl hdoc

/-- An undocumented byte has no cycle but its fetch (R461). -/
theorem fetchCycles_of_undocumented {i : Instr} (h : mnemonic i = .unimpl) : fetchCycles i = baseCycles i := by
  cases i with
  | unimpl op => rfl
  | _ => cases h

/-- Settles O42: the fetch, then the class of the instruction; an undocumented byte has the fetch alone. -/
theorem instructionsTakeTheirCycles : Obligations.InstructionsTakeTheirCycles := by
  intro s h i u
  have hfetch : Unheld s (fetchCycles i) u := fetchInstr_unheld h
  refine ⟨fun hun => ?_, fun hdoc hpush => ?_⟩
  · rw [hfetch.cycles, fetchCycles_of_undocumented hun]
  · obtain ⟨t, hnext, hcycles⟩ := exec_completesIn i hfetch hdoc hpush
    exact ⟨t, hnext, by rw [hcycles, Nat.add_assoc]⟩

end Sys2Proof.Machine
